-- ==== Sys2Proof/Word.lean ====
section
/-! DEFINITION. The widths of the block's data (00_scope R11, 10_state R20). -/

namespace Sys2Proof

/-- `u8`: one byte of the register space, one port byte. -/
abbrev Byte := BitVec 8

/-- An address of the sensor's register space: 8 bits, arithmetic modulo 256 (20_memory R60, R71). -/
abbrev Addr := BitVec 8

/-- `u16`: the pattern of one calibration word (10_state R30). -/
abbrev CalWord := BitVec 16

/-- `u20`: a raw ADC count (10_state R36). -/
abbrev Raw := BitVec 20

/-- `s64`: the two's-complement value of the engine and of the output registers (43 R190). -/
abbrev S64 := BitVec 64

end Sys2Proof
end

