-- ==== Sys2Proof/Config.lean ====
section
/-! DEFINITION. The implementation parameters of 00_scope R9, their constraints (R10) and the values this hardware takes,
and the free values. -/

namespace Sys2Proof

/-- `READ_ORDER` (00_scope R9, 42 R171). -/
inductive ReadOrder where
  | tThenP
  | pThenT
deriving DecidableEq, Repr

/-- The parameters of 00_scope R9, in the order of its table.
`W` is 64 and is the width of `S64`. -/
structure Config where
  regId         : Addr
  chipId        : Byte
  regReset      : Addr
  resetCmd      : Byte
  regStatus     : Addr
  imUpdateMask  : Byte
  regCtrlMeas   : Addr
  regConfig     : Addr
  ctrlMeasValue : Byte
  configValue   : Byte
  sleepValue    : Byte
  calBase       : Addr
  regTempMsb    : Addr
  regTempLsb    : Addr
  regTempXlsb   : Addr
  regPressMsb   : Addr
  regPressLsb   : Addr
  regPressXlsb  : Addr
  resetDelayMs  : BitVec 8
  pollMax       : BitVec 4
  pollDelayMs   : BitVec 8
  readOrder     : ReadOrder
deriving DecidableEq, Repr

/-- The values of 00_scope R9's column "value".
PRESUMED by the spec itself for the sensor's literals (from general knowledge); see log entry 2. -/
def Config.thisHardware : Config where
  regId         := 0xD0#8
  chipId        := 0x58#8
  regReset      := 0xE0#8
  resetCmd      := 0xB6#8
  regStatus     := 0xF3#8
  imUpdateMask  := 0x01#8
  regCtrlMeas   := 0xF4#8
  regConfig     := 0xF5#8
  ctrlMeasValue := 0x27#8
  configValue   := 0x00#8
  sleepValue    := 0x00#8
  calBase       := 0x88#8
  regTempMsb    := 0xFA#8
  regTempLsb    := 0xFB#8
  regTempXlsb   := 0xFC#8
  regPressMsb   := 0xF7#8
  regPressLsb   := 0xF8#8
  regPressXlsb  := 0xF9#8
  resetDelayMs  := 2#8
  pollMax       := 10#4
  pollDelayMs   := 1#8
  readOrder     := .tThenP

/-- Two groups of three consecutive registers in the order MSB, LSB, XLSB (00_scope R10). -/
def Config.rawConsecutive (c : Config) : Bool :=
  c.regTempLsb == c.regTempMsb + 1 && c.regTempXlsb == c.regTempMsb + 2 &&
  c.regPressLsb == c.regPressMsb + 1 && c.regPressXlsb == c.regPressMsb + 2

/-- Mode bits `[1:0]` = 11, the sensor's continuous mode (00_scope R10).
Which bits they are is not in the source: PRESUMED, log entry 19. -/
def Config.selectsNormalMode (c : Config) : Bool :=
  c.ctrlMeasValue &&& 3#8 == 3#8

/-- The constraints of 00_scope R10, with 30_encoding R98's "0 is never issued".
The calibration fields are consecutive by construction (`calAddr`). -/
def Config.wf (c : Config) : Bool :=
  decide (1 ≤ c.pollMax.toNat) && decide (2 ≤ c.resetDelayMs.toNat) &&
  decide (1 ≤ c.pollDelayMs.toNat) && c.rawConsecutive && c.selectsNormalMode

/-! ### Free values: nothing constrains them -/

/-- What `rsp_temp` shows in a step with `rsp_reading_valid = 0`: no defined value (10_state R50, 93 U19; log entry 20). -/
opaque Config.freeTemp : Nat → S64

/-- The same for `rsp_press_x256`. -/
opaque Config.freePressX256 : Nat → S64

/-- The same for `rsp_press_pa`. -/
opaque Config.freePressPa : Nat → S64

end Sys2Proof
end

