-- ==== Sys2Proof/Syntax.lean ====
section
/-! DEFINITION. The block's operations: one constructor per row of spec/opcode_table.json (30_encoding R99). -/

namespace Sys2Proof

/-- The twenty operations of 30_encoding R99. -/
inductive Instr where
  -- format CMD: host commands (30_encoding R92)
  | nop
  | attach
  | read
  | detach
  -- format UOP: sequencer micro-operations (30_encoding R97)
  | idle
  | aIdRd
  | aRstWr
  | aRstDly
  | aPollRd
  | aPollDly
  | aCfgCtrlWr
  | aCfgConfigWr
  | aCalRd
  | rRawRd
  | rCompT
  | rCompP
  | dSleepWr
  -- format CH: register-channel transactions (30_encoding R94)
  | rd8 (addr : Addr)
  | wr8 (addr : Addr) (v : Byte)
  -- format DLY: a delay request (30_encoding R98)
  | dly (ms : BitVec 8)
deriving DecidableEq, Repr

end Sys2Proof
end

