-- ==== Sys2Proof/WellFormed.lean ====
section
/-! DEFINITION. Which instruction terms the encodings admit (30_encoding R98, R102). -/

namespace Sys2Proof

/-- The one operand value an encoding reserves: `DLY` with `ms = 0` (30_encoding R98, R102).
Every 8-bit address and byte is legal for `RD8` and `WR8` (20_memory R71). -/
def Instr.wf : Instr → Bool
  | .dly ms => ms != 0#8
  | .nop | .attach | .read | .detach => true
  | .idle | .aIdRd | .aRstWr | .aRstDly | .aPollRd | .aPollDly | .aCfgCtrlWr | .aCfgConfigWr | .aCalRd => true
  | .rRawRd | .rCompT | .rCompP | .dSleepWr => true
  | .rd8 _ | .wr8 _ _ => true

end Sys2Proof
end

