-- ==== Sys2Proof/Decode.lean ====
section
/-! DEFINITION. Words on the block's ports, the decoder, the encoder, and the table's numbering (30_encoding R92 to R98, R102, R103). -/

namespace Sys2Proof

/-- A word together with the port (the format) it stands on: no bit of a word says its format, the port does (30_encoding R91, R103). -/
inductive PortWord where
  | cmd (op : BitVec 2)      -- `cmd_op`
  | uop (code : BitVec 4)    -- `PHASE`
  | ch  (w : BitVec 17)      -- `ch_req`
  | dly (ms : BitVec 8)      -- `dly_req_ms`
deriving DecidableEq, Repr

/-- Why a word is no operation (30_encoding R102). -/
inductive Reject where
  | reservedPhase      -- UOP 13, 14, 15
  | readCarriesData    -- CH with w = 0 and wdata != 0
  | zeroDelay          -- DLY with ms = 0
deriving DecidableEq, Repr

/-- Format CMD (30_encoding R92): all four codes are defined. -/
def decodeCmd (op : BitVec 2) : Instr :=
  match op.toNat with
  | 0 => .nop
  | 1 => .attach
  | 2 => .read
  | _ => .detach

/-- Format UOP (30_encoding R97). -/
def decodeUop (code : BitVec 4) : Except Reject Instr :=
  match code.toNat with
  | 0 => .ok .idle
  | 1 => .ok .aIdRd
  | 2 => .ok .aRstWr
  | 3 => .ok .aRstDly
  | 4 => .ok .aPollRd
  | 5 => .ok .aPollDly
  | 6 => .ok .aCfgCtrlWr
  | 7 => .ok .aCfgConfigWr
  | 8 => .ok .aCalRd
  | 9 => .ok .rRawRd
  | 10 => .ok .rCompT
  | 11 => .ok .rCompP
  | 12 => .ok .dSleepWr
  | _ => .error .reservedPhase

/-- Field `w` of format CH, bit 16 (30_encoding R94). -/
def chIsWrite (w : BitVec 17) : Bool := w.getLsbD 16

/-- Field `addr` of format CH, bits 15:8. -/
def chAddr (w : BitVec 17) : Addr := w.extractLsb' 8 8

/-- Field `wdata` of format CH, bits 7:0. -/
def chData (w : BitVec 17) : Byte := w.extractLsb' 0 8

/-- Format CH (30_encoding R94): a read always carries `wdata = 0x00`. -/
def decodeCh (w : BitVec 17) : Except Reject Instr :=
  if chIsWrite w then .ok (.wr8 (chAddr w) (chData w))
  else if chData w = 0#8 then .ok (.rd8 (chAddr w))
  else .error .readCarriesData

/-- Format DLY (30_encoding R98): 1 to 255. -/
def decodeDly (ms : BitVec 8) : Except Reject Instr :=
  if ms = 0#8 then .error .zeroDelay else .ok (.dly ms)

/-- The decoder: total, rejecting the reserved words by name. -/
def decode : PortWord → Except Reject Instr
  | .cmd op => .ok (decodeCmd op)
  | .uop code => decodeUop code
  | .ch w => decodeCh w
  | .dly ms => decodeDly ms

/-- The request word of `RD8 addr`: `{0, addr, 0x00}` (30_encoding R94). -/
def rd8Word (addr : Addr) : BitVec 17 := (0#1 ++ addr) ++ 0x00#8

/-- The request word of `WR8 addr, v`: `{1, addr, v}` (30_encoding R94). -/
def wr8Word (addr : Addr) (v : Byte) : BitVec 17 := (1#1 ++ addr) ++ v

/-- The encoder: the word of an instruction, with its port. -/
def encode : Instr → PortWord
  | .nop => .cmd 0b00#2
  | .attach => .cmd 0b01#2
  | .read => .cmd 0b10#2
  | .detach => .cmd 0b11#2
  | .idle => .uop 0#4
  | .aIdRd => .uop 1#4
  | .aRstWr => .uop 2#4
  | .aRstDly => .uop 3#4
  | .aPollRd => .uop 4#4
  | .aPollDly => .uop 5#4
  | .aCfgCtrlWr => .uop 6#4
  | .aCfgConfigWr => .uop 7#4
  | .aCalRd => .uop 8#4
  | .rRawRd => .uop 9#4
  | .rCompT => .uop 10#4
  | .rCompP => .uop 11#4
  | .dSleepWr => .uop 12#4
  | .rd8 addr => .ch (rd8Word addr)
  | .wr8 addr v => .ch (wr8Word addr v)
  | .dly ms => .dly ms

/-- The port a bare table word stands on.
DESIGN CHOICE (log entry 10): the table's formats CMD (2 bits), UOP (4 bits), DLY (8 bits) overlap once their
widths are rounded up to whole bytes, and no bit of a word says its format.
The exact widths 2, 4 and 17 name their format; 24 is CH; in 8 bits the values 0..3 are taken as CMD,
4..12 as UOP and the rest as DLY. -/
def tablePort (nbits w : Nat) : Option PortWord :=
  if nbits = 2 then (if w < 4 then some (.cmd (BitVec.ofNat 2 w)) else none)
  else if nbits = 4 then (if w < 16 then some (.uop (BitVec.ofNat 4 w)) else none)
  else if nbits = 8 then
    (if w < 4 then some (.cmd (BitVec.ofNat 2 w))
     else if w < 13 then some (.uop (BitVec.ofNat 4 w))
     else if w < 256 then some (.dly (BitVec.ofNat 8 w))
     else none)
  else if nbits = 17 ∨ nbits = 24 then (if w < 131072 then some (.ch (BitVec.ofNat 17 w)) else none)
  else none

/-- The instruction the decoder reads from a word numbered as spec/opcode_table.json numbers it. -/
def decodeTableWord (nbits w : Nat) : Option Instr :=
  match tablePort nbits w with
  | none => none
  | some p =>
    match decode p with
    | .ok i => some i
    | .error _ => none

end Sys2Proof
end

