-- ==== Sys2Proof/Machine/State.lean ====
section
/-! DEFINITION. The state of one block: the registers of 10_state R20, the ports that outlast a step (30_encoding R91),
the outside world's inputs as lists, and the trace. -/

namespace Sys2Proof.Machine

/-- Register `STATE`: DOC0's five lifecycle states (10_state R21).
Codes 5 to 7 are left out of the type (93 U17, log entry 13). -/
inductive Lifecycle where
  | unattached
  | identityChecked
  | reset
  | ready
  | failed
deriving DecidableEq, Repr

/-- Register `PHASE`: the sequencer's position (10_state R23).
Codes 13 to 15 are left out of the type (93 U17, log entry 13). -/
inductive Phase where
  | idle
  | aIdRd
  | aRstWr
  | aRstDly
  | aPollRd
  | aPollDly
  | aCfgCtrlWr
  | aCfgConfigWr
  | aCalRd
  | rRawRd
  | rCompT
  | rCompP
  | dSleepWr
deriving DecidableEq, Repr

/-- The status codes (60_exceptions R230). -/
inductive Status where
  | ok
  | identityMismatch
  | transportError
  | notReady
  | degeneratePressure
  | badState
deriving DecidableEq, Repr

/-- The channel's answer to an `RD8` (20_memory R63). -/
inductive ReadAnswer where
  | err
  | byte (b : Byte)
deriving DecidableEq, Repr

/-- The channel's answer to a `WR8` (20_memory R64). -/
inductive WriteAnswer where
  | err
  | ok
deriving DecidableEq, Repr

/-- The three reading fields of the response group (30_encoding R93). -/
structure Reading where
  temp      : S64
  pressX256 : S64
  pressPa   : S64
deriving DecidableEq, Repr

/-- The response group sampled when `rsp_valid = 1` (30_encoding R93).
`reading` is `none` when `rsp_reading_valid = 0`: the fields then hold no value. -/
structure Response where
  status  : Status
  warn    : BitVec 2
  reading : Option Reading
deriving DecidableEq, Repr

/-- One event of the trace (30_encoding R104, 70_reset R265). -/
inductive Event where
  | rd8 (addr : Addr) (ans : ReadAnswer)
  | wr8 (addr : Addr) (v : Byte) (ans : WriteAnswer)
  | dly (ms : BitVec 8)
  | rsp (r : Response)
deriving DecidableEq, Repr

/-- Reasons to stop with a fault: there is none, so no step and no act of the host faults.
The block has no traps (60_exceptions), a silent agent makes it wait (70_reset R264), and a value the spec leaves undefined is
a free value (log entry 20). -/
inductive Fault where
deriving DecidableEq, Repr

/-- Reasons to refuse. -/
inductive Refusal where
  /-- Raised by a rejected arm of `exec`: an instruction without a meaning. Safe. No arm is rejected in this model. -/
  | notModelled (mnemonic : String)
  /-- Raised by `runFetched` when a request port shows a word of 30_encoding R102 that no rule produces (log entry 17).
  Safe: no state that a run reaches holds such a word. -/
  | reservedWord (why : Reject)
deriving DecidableEq, Repr

/-- The channel's input ports in one step: `ch_req_ready`, and `ch_rsp` where `ch_rsp_valid = 1` (30_encoding R91). -/
structure ChannelInput where
  ready : Bool
  rsp   : Option (BitVec 9)
deriving DecidableEq, Repr

/-- The state of one block and what surrounds it. Plain data. -/
@[ext]
structure State where
  /-- The parameters of this block (00_scope R9), constant (log entry 1). -/
  cfg          : Config
  /-- `STATE` (10_state R21). -/
  lifecycle    : Lifecycle
  /-- `PHASE` (R23). -/
  phase        : Phase
  /-- `POLL_CNT` (R25). -/
  pollCnt      : BitVec 4
  /-- `CAL_IDX`, 0 to 23 (R26). -/
  calIdx       : Fin 24
  /-- `RAW_IDX`, 0 to 5 (R27). -/
  rawIdx       : Fin 6
  /-- `BYTE_LO` (R28). -/
  byteLo       : Byte
  /-- `CAL[0..11]` = T1, T2, T3, P1, ..., P9 (R30). -/
  cal          : Vector CalWord 12
  /-- `CAL_VALID` (R33). -/
  calValid     : Bool
  /-- `RAWB[0..5]` (R35). -/
  rawb         : Vector Byte 6
  /-- `RAW_T` (R36). -/
  rawT         : Raw
  /-- `RAW_P` (R36). -/
  rawP         : Raw
  /-- `T_FINE` (R37). -/
  tFine        : S64
  /-- `TEMP_NEW` (R38). -/
  tempNew      : S64
  /-- `TEMP_OUT` (R39). -/
  tempOut      : S64
  /-- `PRESS_X256_OUT` (R40). -/
  pressX256Out : S64
  /-- `PRESS_PA_OUT` (R41). -/
  pressPaOut   : S64
  /-- `OUT_VALID` (R42). -/
  outValid     : Bool
  /-- `RSP_STATUS` (R43). -/
  rspStatus    : Status
  /-- `RSP_WARN` (R44). -/
  rspWarn      : BitVec 2
  /-- `WARN` (R44). -/
  warn         : BitVec 2
  /-- `LAST_ERR` (R45). -/
  lastErr      : Status
  /-- Port `rsp_valid` in the step just done (30_encoding R91, 40 R122; log entry 18). -/
  rspValid     : Bool
  /-- Ports `ch_req_valid`, `ch_req`: the request on offer, held until the channel is ready (30_encoding R90, R91). -/
  chReq        : Option (BitVec 17)
  /-- The transaction the channel has accepted and not answered yet (30_encoding R90, 20_memory R74). -/
  chPending    : Option (BitVec 17)
  /-- Ports `dly_req_valid`, `dly_req_ms`: the delay the timer has not completed yet. -/
  dlyReq       : Option (BitVec 8)
  /-- Port `rst`, sampled once a step, head first; past the end it is 0 (log entry 6). -/
  rst          : List Bool
  /-- Ports `cmd_valid`, `cmd_op`: one entry for each step in `IDLE`, head first; past the end nothing is offered (log entry 5). -/
  cmdIn        : List (Option (BitVec 2))
  /-- Ports `ch_req_ready`, `ch_rsp_valid`, `ch_rsp`: one entry for each step that offers a request or waits for an answer;
  past the end the channel is neither ready nor answers (log entry 5). -/
  chIn         : List ChannelInput
  /-- Port `dly_done`: one entry for each step that waits for the timer; past the end it never completes (log entry 5). -/
  dlyIn        : List Bool
  /-- The events of the run, oldest first (70_reset R265; log entry 9). -/
  trace        : List Event
  /-- The model's own counter, advanced by every step: which free value a port without a value shows (log entry 20). -/
  freeCnt      : Nat
deriving DecidableEq, Repr

/-- The block right after hardware reset (10_state R49, 70_reset R260) with nothing offered, answered or recorded.
DESIGN CHOICE (log entry 3): the registers that "hold no value" (BYTE_LO, CAL, RAWB, RAW_T, RAW_P, T_FINE, TEMP_NEW
and the three output registers) are zero; so is the model's own counter (log entry 20). -/
def State.reset : State where
  cfg          := Config.thisHardware
  lifecycle    := .unattached
  phase        := .idle
  pollCnt      := 0#4
  calIdx       := 0
  rawIdx       := 0
  byteLo       := 0#8
  cal          := Vector.replicate 12 0#16
  calValid     := false
  rawb         := Vector.replicate 6 0#8
  rawT         := 0#20
  rawP         := 0#20
  tFine        := 0#64
  tempNew      := 0#64
  tempOut      := 0#64
  pressX256Out := 0#64
  pressPaOut   := 0#64
  outValid     := false
  rspStatus    := .ok
  rspWarn      := 0#2
  warn         := 0#2
  lastErr      := .ok
  rspValid     := false
  chReq        := none
  chPending    := none
  dlyReq       := none
  rst          := []
  cmdIn        := []
  chIn         := []
  dlyIn        := []
  trace        := []
  freeCnt      := 0

end Sys2Proof.Machine
end

