-- ==== Sys2Proof/Machine/Codes.lean ====
section
/-! DEFINITION. The bit codes of the enumerated registers and of the channel's answer (30_encoding R95 to R97, 60_exceptions R230). -/

namespace Sys2Proof.Machine

/-- Format `STATE`, 3 bits (30_encoding R96). -/
def lifecycleCode : Lifecycle → BitVec 3
  | .unattached => 0#3
  | .identityChecked => 1#3
  | .reset => 2#3
  | .ready => 3#3
  | .failed => 4#3

/-- The lifecycle state of a code; 5, 6, 7 are reserved (30_encoding R96). -/
def lifecycleOfCode (c : BitVec 3) : Option Lifecycle :=
  match c.toNat with
  | 0 => some .unattached
  | 1 => some .identityChecked
  | 2 => some .reset
  | 3 => some .ready
  | 4 => some .failed
  | _ => none

/-- Format `UOP`, 4 bits: the value of `PHASE` (30_encoding R97). -/
def phaseCode : Phase → BitVec 4
  | .idle => 0#4
  | .aIdRd => 1#4
  | .aRstWr => 2#4
  | .aRstDly => 3#4
  | .aPollRd => 4#4
  | .aPollDly => 5#4
  | .aCfgCtrlWr => 6#4
  | .aCfgConfigWr => 7#4
  | .aCalRd => 8#4
  | .rRawRd => 9#4
  | .rCompT => 10#4
  | .rCompP => 11#4
  | .dSleepWr => 12#4

/-- The phase of a code; 13, 14, 15 are reserved (30_encoding R97). -/
def phaseOfCode (c : BitVec 4) : Option Phase :=
  match c.toNat with
  | 0 => some .idle
  | 1 => some .aIdRd
  | 2 => some .aRstWr
  | 3 => some .aRstDly
  | 4 => some .aPollRd
  | 5 => some .aPollDly
  | 6 => some .aCfgCtrlWr
  | 7 => some .aCfgConfigWr
  | 8 => some .aCalRd
  | 9 => some .rRawRd
  | 10 => some .rCompT
  | 11 => some .rCompP
  | 12 => some .dSleepWr
  | _ => none

/-- The 3-bit status code (60_exceptions R230). -/
def statusCode : Status → BitVec 3
  | .ok => 0#3
  | .identityMismatch => 1#3
  | .transportError => 2#3
  | .notReady => 3#3
  | .degeneratePressure => 4#3
  | .badState => 5#3

/-- The status of a code; 6 and 7 are reserved (60_exceptions R230). -/
def statusOfCode (c : BitVec 3) : Option Status :=
  match c.toNat with
  | 0 => some .ok
  | 1 => some .identityMismatch
  | 2 => some .transportError
  | 3 => some .notReady
  | 4 => some .degeneratePressure
  | 5 => some .badState
  | _ => none

/-- Field `err` of format CHR, bit 8 (30_encoding R95). -/
def chrErr (w : BitVec 9) : Bool := w.getLsbD 8

/-- Field `rdata` of format CHR, bits 7:0 (30_encoding R95). -/
def chrData (w : BitVec 9) : Byte := w.extractLsb' 0 8

/-- The answer to a read: `err = 1` is `Err` and `rdata` is ignored, else the byte (30_encoding R95). -/
def readAnswer (w : BitVec 9) : ReadAnswer :=
  if chrErr w then .err else .byte (chrData w)

/-- The answer to a write: `rdata` is ignored in both cases (30_encoding R95). -/
def writeAnswer (w : BitVec 9) : WriteAnswer :=
  if chrErr w then .err else .ok

/-- The word of a read answer, with `rdata` zero in an error. -/
def readAnswerWord : ReadAnswer → BitVec 9
  | .err => 0x100#9
  | .byte b => 0#1 ++ b

end Sys2Proof.Machine
end

