-- ==== Sys2Proof/Machine/Flags.lean ====
section
/-! DEFINITION. The two warning flags (10_state R44). There are no arithmetic flags (10_state R43, 43 R197). -/

namespace Sys2Proof.Machine

/-- Bit 0 of `WARN`, `SLEEP_WRITE_FAILED` (10_state R44). -/
def sleepWriteFailed : BitVec 2 := 0b01#2

/-- Bit 1 of `WARN`, `POLL_EXHAUSTED` (10_state R44). -/
def pollExhausted : BitVec 2 := 0b10#2

/-- `WARN.<flag> <- 1`, the other flag kept. -/
def State.setWarn (flag : BitVec 2) (s : State) : State := { s with warn := s.warn ||| flag }

/-- `WARN <- 0`, the act of acceptance (40 R121). -/
def State.clearWarn (s : State) : State := { s with warn := 0#2 }

end Sys2Proof.Machine
end

