-- ==== Sys2Proof/Machine/Arith.lean ====
section
/-! DEFINITION. The integer arithmetic laws of the engine (43 R190 to R195), exact first and then narrowed by `wrap64`. -/

namespace Sys2Proof.Machine

/-- The unique `s64` congruent to `z` modulo 2^64 (43 R190). -/
def wrap64 (z : Int) : S64 := BitVec.ofInt 64 z

/-- 43 R191. -/
def add64 (a b : S64) : S64 := wrap64 (a.toInt + b.toInt)

/-- 43 R191. -/
def sub64 (a b : S64) : S64 := wrap64 (a.toInt - b.toInt)

/-- 43 R192. -/
def mul64 (a b : S64) : S64 := wrap64 (a.toInt * b.toInt)

/-- 43 R193: the shift amount is a constant. -/
def shl64 (a : S64) (n : Nat) : S64 := wrap64 (a.toInt * 2 ^ n)

/-- 43 R194: `floor(a / 2^n)`. -/
def asr64 (a : S64) (n : Nat) : S64 := wrap64 (a.toInt.fdiv (2 ^ n))

/-- 43 R195: the quotient rounded toward zero.
The rule gives no value for a zero divisor ("never evaluated"); Lean's total division gives 0 there (log entry 15). -/
def sdiv64 (a b : S64) : S64 := wrap64 (a.toInt.tdiv b.toInt)

end Sys2Proof.Machine
end

