-- ==== Sys2Proof/Machine/Operands.lean ====
section
/-! DEFINITION. The operand forms: computed addresses (10_state R26, 42 R171), assembled words (20_memory R67, R68, 42 R173)
and the engine's converted operands (10_state R31, 43 R196). -/

namespace Sys2Proof.Machine

/-- `(CAL_BASE + CAL_IDX) mod 256` (10_state R26, 41 R149). -/
def calAddr (c : Config) (i : Fin 24) : Addr := c.calBase + BitVec.ofNat 8 i.val

/-- `RAW_ADDR[0..5]` (42 R171). -/
def rawAddr (c : Config) (i : Fin 6) : Addr :=
  match c.readOrder, i.val with
  | .tThenP, 0 => c.regTempMsb
  | .tThenP, 1 => c.regTempLsb
  | .tThenP, 2 => c.regTempXlsb
  | .tThenP, 3 => c.regPressMsb
  | .tThenP, 4 => c.regPressLsb
  | .tThenP, _ => c.regPressXlsb
  | .pThenT, 0 => c.regPressMsb
  | .pThenT, 1 => c.regPressLsb
  | .pThenT, 2 => c.regPressXlsb
  | .pThenT, 3 => c.regTempMsb
  | .pThenT, 4 => c.regTempLsb
  | .pThenT, _ => c.regTempXlsb

/-- The little-endian pair of `read_u16_le`: `{msb, lsb}` (20_memory R67, 41 R149). -/
def u16le (msb lsb : Byte) : CalWord := msb ++ lsb

/-- The index `CAL_IDX >> 1` of the calibration word a byte belongs to (10_state R26). -/
def calWordIdx (i : Fin 24) : Fin 12 := ⟨i.val / 2, by omega⟩

/-- `raw(m, l, x) = {m, l, x[7:4]}` (42 R173). -/
def raw (m l x : Byte) : Raw := (m ++ l) ++ x.extractLsb' 4 4

/-- The temperature sample of `RAWB`, in the roles `READ_ORDER` gives its bytes (42 R171, R173). -/
def rawTemp (order : ReadOrder) (b : Vector Byte 6) : Raw :=
  match order with
  | .tThenP => raw b[0] b[1] b[2]
  | .pThenT => raw b[3] b[4] b[5]

/-- The pressure sample of `RAWB` (42 R171, R173). -/
def rawPress (order : ReadOrder) (b : Vector Byte 6) : Raw :=
  match order with
  | .tThenP => raw b[3] b[4] b[5]
  | .pThenT => raw b[0] b[1] b[2]

/-- `zext_64` of a raw sample (43 R196). -/
def zextRaw (r : Raw) : S64 := r.zeroExtend 64

/-- `zext_64` of a calibration word: `T1` and `P1` (10_state R31). -/
def zextCal (w : CalWord) : S64 := w.zeroExtend 64

/-- `sext_64` of a calibration word: the other ten (10_state R31). -/
def sextCal (w : CalWord) : S64 := w.signExtend 64

end Sys2Proof.Machine
end

