-- ==== Sys2Proof/Machine/Ops.lean ====
section
/-! DEFINITION. The operations every meaning is built from: a channel transaction, a delay, acceptance, `respond`, `fail`,
`publish` and hardware reset. -/

namespace Sys2Proof.Machine

/-- What a meaning answers. -/
abbrev Result := Host.Outcome State Fault Refusal

/-- Append an event to the trace. -/
def State.record (e : Event) (s : State) : State := { s with trace := s.trace ++ [e] }

/-- Port `ch_req_ready` in this step. -/
def State.channelReady (s : State) : Bool :=
  match s.chIn with
  | e :: _ => e.ready
  | [] => false

/-- The channel has the present transaction: it accepted it in an earlier step or is ready in this one (30_encoding R90). -/
def State.chTaken (s : State) : Bool := s.chPending.isSome || s.channelReady

/-- The block waits for the channel (40 R133, 70_reset R264).
A request that is not accepted stays on the port; an accepted one leaves it and awaits its answer (30_encoding R90). -/
def State.awaitChannel (req : BitVec 17) (s : State) : State :=
  { s with
    chReq := if s.chTaken then none else some req
    chPending := if s.chTaken then some req else none
    chIn := s.chIn.tail }

/-- The block waits for the timer (40 R133, 70_reset R264). -/
def State.awaitTimer (ms : BitVec 8) (s : State) : State :=
  { s with dlyReq := some ms, dlyIn := s.dlyIn.tail }

/-- The channel's answer has been taken: nothing is on offer and nothing is awaited. -/
def State.takeAnswer (s : State) : State := { s with chReq := none, chPending := none, chIn := s.chIn.tail }

/-- The timer's completion has been taken. -/
def State.takeDone (s : State) : State := { s with dlyReq := none, dlyIn := s.dlyIn.tail }

/-- The answer the channel gives in this step to the present transaction, if it gives one.
`ch_rsp_valid` answers an accepted transaction only (30_encoding R90, 70_reset R264; log entry 8). -/
def State.channelAnswer (s : State) : Option (BitVec 9) :=
  match s.chIn with
  | e :: _ => if s.chTaken then e.rsp else none
  | [] => none

/-- Whether the timer completes in this step. -/
def State.timerDone (s : State) : Bool :=
  match s.dlyIn with
  | true :: _ => true
  | _ => false

/-- `r <- MemRead(addr, 1)` and then `k r`: one `RD8` transaction (20_memory R63, R65, R74), or a step of waiting. -/
def State.memRead (addr : Addr) (s : State) (k : ReadAnswer → State → Result) : Result :=
  match s.channelAnswer with
  | some w => k (readAnswer w) (s.takeAnswer.record (.rd8 addr (readAnswer w)))
  | none => .next (s.awaitChannel (rd8Word addr))

/-- `r <- MemWrite(addr, 1, v)` and then `k r`: one `WR8` transaction (20_memory R64, R65, R74), or a step of waiting. -/
def State.memWrite (addr : Addr) (v : Byte) (s : State) (k : WriteAnswer → State → Result) : Result :=
  match s.channelAnswer with
  | some w => k (writeAnswer w) (s.takeAnswer.record (.wr8 addr v (writeAnswer w)))
  | none => .next (s.awaitChannel (wr8Word addr v))

/-- `Delay(ms)` and then `k` (20_memory R75), or a step of waiting. -/
def State.delay (ms : BitVec 8) (s : State) (k : State → Result) : Result :=
  if s.timerDone then k (s.takeDone.record (.dly ms))
  else .next (s.awaitTimer ms)

/-- The reading ports as the response group shows them (30_encoding R93, 10_state R50). -/
def State.readingPorts (s : State) : Option Reading :=
  if s.outValid then some ⟨s.tempOut, s.pressX256Out, s.pressPaOut⟩ else none

/-- `respond(s)` (40 R122): the end of every command.
It is also how NotReady, BadState and a READ's TransportError are raised (60_exceptions R241, R242). -/
def State.respond (st : Status) (s : State) : State :=
  { s with
    rspStatus := st
    rspWarn := s.warn
    phase := .idle
    rspValid := true
    trace := s.trace ++ [.rsp ⟨st, s.warn, s.readingPorts⟩] }

/-- `fail(code)` (41 R150): how IdentityMismatch and TransportError are raised inside an ATTACH (60_exceptions R240). -/
def State.fail (code : Status) (s : State) : State :=
  { s with lifecycle := .failed, lastErr := code, calValid := false }.respond code

/-- `publish(T, P)` (43 R218): the three outputs and `OUT_VALID` in one step. -/
def State.publish (t p : S64) (s : State) : State :=
  { s with
    tempOut := t
    pressX256Out := p
    pressPaOut := sdiv64 p 256#64
    outValid := true }

/-- The channel's inputs with the late answer, the next one, ignored (70_reset R262; log entry 7). -/
def ignoreLateAnswer : List ChannelInput → List ChannelInput
  | [] => []
  | e :: rest => if e.rsp.isSome then { e with rsp := none } :: rest else e :: ignoreLateAnswer rest

/-- The timer's inputs with the late completion, the next one, ignored (70_reset R262; log entry 7). -/
def ignoreLateDone : List Bool → List Bool
  | [] => []
  | d :: rest => if d then false :: rest else d :: ignoreLateDone rest

/-- Hardware reset (70_reset R260, R262): every register takes its reset value, the command in execution is dropped,
and a new run starts (70_reset R265; log entry 6).
The parameters, the wiring to the outside world, what it will do next and the counter of the free values stay.
A request still on offer is withdrawn; only an accepted one was made before the reset and has a late answer. -/
def State.hardReset (s : State) : State :=
  { State.reset with
    cfg := s.cfg
    rst := s.rst
    cmdIn := s.cmdIn
    freeCnt := s.freeCnt
    chIn := if s.chPending.isSome then ignoreLateAnswer s.chIn else s.chIn
    dlyIn := if s.dlyReq.isSome then ignoreLateDone s.dlyIn else s.dlyIn }

end Sys2Proof.Machine
end

