-- ==== Sys2Proof/Machine/Channel.lean ====
section
/-! DEFINITION. The meanings of RD8, WR8 and DLY by themselves (20_memory R63, R64, R75): one transaction or one delay.
Inside a micro-operation the same shared operations run, followed by the micro-operation's own rule. -/

namespace Sys2Proof.Machine

/-- `RD8 addr` (20_memory R63): the answer is in the trace, no register of the block changes (R73). -/
def execRd8 (addr : Addr) (s : State) : Result := s.memRead addr fun _ s1 => .next s1

/-- `WR8 addr, v` (20_memory R64): what it does inside the sensor is outside the block's state. -/
def execWr8 (addr : Addr) (v : Byte) (s : State) : Result := s.memWrite addr v fun _ s1 => .next s1

/-- `DLY ms` (20_memory R75). -/
def execDly (ms : BitVec 8) (s : State) : Result := s.delay ms fun s1 => .next s1

end Sys2Proof.Machine
end

