-- ==== Sys2Proof/Machine/Engine.lean ====
section
/-! DEFINITION. The compensation formulas in primitives (43 R201, R211), and the same formulas over the mathematical integers
with the predicate `NoOverflow` (43 R197). -/

namespace Sys2Proof.Machine

/-- `comp_t(raw_T, T1, T2, T3)`: the pair `(t_fine, T)` (43 R201). -/
def compT (rawT t1 t2 t3 : S64) : S64 × S64 :=
  let a := sub64 (asr64 rawT 3) (shl64 t1 1)
  let tv1 := asr64 (mul64 a t2) 11
  let d := sub64 (asr64 rawT 4) t1
  let tv2 := asr64 (mul64 (asr64 (mul64 d d) 12) t3) 14
  let tFine := add64 tv1 tv2
  (tFine, asr64 (add64 (mul64 tFine 5#64) 128#64) 8)

/-- `sq` and `v1b` lead to the divisor `v1c` of the pressure path (43 R211). -/
def compPDivisor (tFine p1 p2 p3 : S64) : S64 :=
  let v1a := sub64 tFine 128000#64
  let sq := mul64 v1a v1a
  let v1b := add64 (asr64 (mul64 sq p3) 8) (shl64 (mul64 v1a p2) 12)
  asr64 (mul64 (add64 (wrap64 (2 ^ 47)) v1b) p1) 33

/-- `v2` of the pressure path (43 R211). -/
def compPOffset (tFine p4 p5 p6 : S64) : S64 :=
  let v1a := sub64 tFine 128000#64
  let sq := mul64 v1a v1a
  add64 (add64 (mul64 sq p6) (shl64 (mul64 v1a p5) 17)) (shl64 p4 35)

/-- The end of the pressure path, from the quotient `p1` (called `q` here) to `P` (43 R211). -/
def compPFinish (q p7 p8 p9 : S64) : S64 :=
  let w1 := asr64 (mul64 (mul64 p9 (asr64 q 13)) (asr64 q 13)) 25
  let w2 := asr64 (mul64 p8 q) 19
  add64 (asr64 (add64 (add64 q w1) w2) 8) (shl64 p7 4)

/-- `comp_p(raw_P, t_fine, P1, ..., P9)`: the pair `(P, degenerate)` (43 R211, R212). -/
def compP (rawP tFine p1 p2 p3 p4 p5 p6 p7 p8 p9 : S64) : S64 × Bool :=
  let v2 := compPOffset tFine p4 p5 p6
  let v1c := compPDivisor tFine p1 p2 p3
  if v1c = 0#64 then (0#64, true)
  else
    let p0 := sub64 1048576#64 rawP
    let num := mul64 (sub64 (shl64 p0 31) v2) 3125#64
    (compPFinish (sdiv64 num v1c) p7 p8 p9, false)

/-- `comp_t` on a raw sample and the store, operands converted as 43 R196 says. -/
def compTCal (rawT : Raw) (cal : Vector CalWord 12) : S64 × S64 :=
  compT (zextRaw rawT) (zextCal cal[0]) (sextCal cal[1]) (sextCal cal[2])

/-- `comp_p` on a raw sample, `t_fine` and the store, operands converted as 43 R196 says. -/
def compPCal (rawP : Raw) (tFine : S64) (cal : Vector CalWord 12) : S64 × Bool :=
  compP (zextRaw rawP) tFine (zextCal cal[3]) (sextCal cal[4]) (sextCal cal[5]) (sextCal cal[6])
    (sextCal cal[7]) (sextCal cal[8]) (sextCal cal[9]) (sextCal cal[10]) (sextCal cal[11])

/-! ### The formulas over `Z` (43 R197) -/

/-- `asr64` over `Z`: `floor(a / 2^n)` (43 R197). -/
def asrZ (a : Int) (n : Nat) : Int := a.fdiv (2 ^ n)

/-- `comp_t` over `Z`: `(t_fine, T)` and every value produced on the way, in order (43 R197, R201). -/
def compTZ (rawT t1 t2 t3 : Int) : (Int × Int) × List Int :=
  let r3 := asrZ rawT 3
  let t1s := t1 * 2 ^ 1
  let a := r3 - t1s
  let m := a * t2
  let tv1 := asrZ m 11
  let r4 := asrZ rawT 4
  let d := r4 - t1
  let dd := d * d
  let dd12 := asrZ dd 12
  let m3 := dd12 * t3
  let tv2 := asrZ m3 14
  let tFine := tv1 + tv2
  let t5 := tFine * 5
  let t5r := t5 + 128
  let t := asrZ t5r 8
  ((tFine, t), [r3, t1s, a, m, tv1, r4, d, dd, dd12, m3, tv2, tFine, t5, t5r, t])

/-- `v1c` over `Z` and every value produced on the way. -/
def compPDivisorZ (tFine p1 p2 p3 : Int) : Int × List Int :=
  let v1a := tFine - 128000
  let sq := v1a * v1a
  let m3 := sq * p3
  let m3s := asrZ m3 8
  let m2 := v1a * p2
  let m2s := m2 * 2 ^ 12
  let v1b := m3s + m2s
  let f := 2 ^ 47 + v1b
  let m1 := f * p1
  let v1c := asrZ m1 33
  (v1c, [v1a, sq, m3, m3s, m2, m2s, v1b, f, m1, v1c])

/-- `v2` over `Z` and every value produced on the way. -/
def compPOffsetZ (tFine p4 p5 p6 : Int) : Int × List Int :=
  let v1a := tFine - 128000
  let sq := v1a * v1a
  let m6 := sq * p6
  let m5 := v1a * p5
  let m5s := m5 * 2 ^ 17
  let s65 := m6 + m5s
  let p4s := p4 * 2 ^ 35
  let v2 := s65 + p4s
  (v2, [v1a, sq, m6, m5, m5s, s65, p4s, v2])

/-- The end of the pressure path over `Z` and every value produced on the way. -/
def compPFinishZ (q p7 p8 p9 : Int) : Int × List Int :=
  let q13 := asrZ q 13
  let m9 := p9 * q13
  let m99 := m9 * q13
  let w1 := asrZ m99 25
  let m8 := p8 * q
  let w2 := asrZ m8 19
  let s1 := q + w1
  let s2 := s1 + w2
  let s8 := asrZ s2 8
  let p7s := p7 * 2 ^ 4
  let p := s8 + p7s
  (p, [q13, m9, m99, w1, m8, w2, s1, s2, s8, p7s, p])

/-- `comp_p` over `Z`: `(P, degenerate)` and every value produced on the way (43 R197, R211).
In the degenerate case nothing after `v1c` is evaluated (43 R212). -/
def compPZ (rawP tFine p1 p2 p3 p4 p5 p6 p7 p8 p9 : Int) : (Int × Bool) × List Int :=
  let v2 := compPOffsetZ tFine p4 p5 p6
  let v1c := compPDivisorZ tFine p1 p2 p3
  if v1c.1 = 0 then ((0, true), v2.2 ++ v1c.2)
  else
    let p0 := 1048576 - rawP
    let p0s := p0 * 2 ^ 31
    let df := p0s - v2.1
    let num := df * 3125
    let q := num.tdiv v1c.1
    let fin := compPFinishZ q p7 p8 p9
    ((fin.1, false), v2.2 ++ v1c.2 ++ [p0, p0s, df, num, q] ++ fin.2)

/-- The range of an `s64` (43 R190). -/
def inS64 (z : Int) : Bool := decide (-(2 ^ 63) ≤ z) && decide (z ≤ 2 ^ 63 - 1)

/-- `comp_t` over `Z` on a raw sample and the store. -/
def compTCalZ (rawT : Raw) (cal : Vector CalWord 12) : (Int × Int) × List Int :=
  compTZ rawT.toNat cal[0].toNat cal[1].toInt cal[2].toInt

/-- `comp_p` over `Z` on a raw sample, `t_fine` and the store. -/
def compPCalZ (rawP : Raw) (tFine : Int) (cal : Vector CalWord 12) : (Int × Bool) × List Int :=
  compPZ rawP.toNat tFine cal[3].toNat cal[4].toInt cal[5].toInt cal[6].toInt cal[7].toInt
    cal[8].toInt cal[9].toInt cal[10].toInt cal[11].toInt

/-- `NoOverflow(raw_T, raw_P, CAL)`: over `Z` every value produced by both paths is an `s64` (43 R197). -/
def noOverflow (rawT rawP : Raw) (cal : Vector CalWord 12) : Bool :=
  (compTCalZ rawT cal).2.all inS64 &&
  (compPCalZ rawP (compTCalZ rawT cal).1.1 cal).2.all inS64

end Sys2Proof.Machine
end

