-- ==== Sys2Proof/Machine/Compensation.lean ====
section
/-! DEFINITION. The meanings of R_COMP_T and R_COMP_P (43_compensation_engine). -/

namespace Sys2Proof.Machine

/-- `R_COMP_T` (43 R200). -/
def execRCompT (s : State) : Result :=
  let r := rawTemp s.cfg.readOrder s.rawb
  let ct := compTCal r s.cal
  .next { s with rawT := r, tFine := ct.1, tempNew := ct.2, phase := .rCompP }

/-- The status of a finished READ: a zero divisor marks the reading (43 R210, R212; 60_exceptions R243). -/
def readStatus (degenerate : Bool) : Status := if degenerate then .degeneratePressure else .ok

/-- `R_COMP_P` (43 R210, R218). -/
def execRCompP (s : State) : Result :=
  let r := rawPress s.cfg.readOrder s.rawb
  let cp := compPCal r s.tFine s.cal
  .next (({ s with rawP := r }.publish s.tempNew cp.1).respond (readStatus cp.2))

end Sys2Proof.Machine
end

