-- ==== Sys2Proof/Machine/HostCommands.lean ====
section
/-! DEFINITION. The meanings of NOP, ATTACH, READ, DETACH and IDLE (40_host_commands).
A command's meaning is its acceptance: `WARN <- 0` (R121) and then its own rule. -/

namespace Sys2Proof.Machine

/-- `NOP` (40 R123). -/
def execNop (s : State) : Result := .next (s.clearWarn.respond .ok)

/-- `ATTACH` (40 R124, R125). -/
def execAttach (s : State) : Result :=
  if s.lifecycle ≠ .unattached then .next (s.clearWarn.respond .badState)
  else .next { s.clearWarn with phase := .aIdRd }

/-- `READ` (40 R126, R127). -/
def execRead (s : State) : Result :=
  if s.lifecycle ≠ .ready then .next (s.clearWarn.respond .notReady)
  else .next { s.clearWarn with rawIdx := 0, phase := .rRawRd }

/-- `DETACH` (40 R128, R129).
The transient states cannot be seen at acceptance (10_state R22); there the command answers OK and changes nothing,
as R132's row "DETACH with STATE != Ready" and "Statuses: always OK" say (DEDUCED, log entry 12). -/
def execDetach (s : State) : Result :=
  match s.lifecycle with
  | .ready => .next { s.clearWarn with phase := .dSleepWr }
  | .failed =>
    .next ({ s.clearWarn with lifecycle := .unattached, lastErr := .ok, calValid := false }.respond .ok)
  | .unattached | .identityChecked | .reset => .next (s.clearWarn.respond .ok)

/-- The acceptance of the command word on `cmd_op` (40 R121). -/
def dispatchCommand (op : BitVec 2) (s : State) : Result :=
  match op.toNat with
  | 0 => execNop s
  | 1 => execAttach s
  | 2 => execRead s
  | _ => execDetach s

/-- This step's entry of the command port has been consumed. -/
def State.takeCommand (s : State) : State := { s with cmdIn := s.cmdIn.tail }

/-- The command the host offers in this step, if it offers one: `cmd_valid` and `cmd_op`. -/
def State.commandOffered (s : State) : Option (BitVec 2) :=
  match s.cmdIn with
  | some op :: _ => some op
  | _ => none

/-- `IDLE` (40 R121): accept the command the host offers, or stay. -/
def execIdle (s : State) : Result :=
  match s.commandOffered with
  | some op => dispatchCommand op s.takeCommand
  | none => .next s.takeCommand

end Sys2Proof.Machine
end

