-- ==== Sys2Proof/Machine/InitSequencer.lean ====
section
/-! DEFINITION. The meanings of ATTACH's micro-operations (41_init_sequencer). -/

namespace Sys2Proof.Machine

/-- `A_ID_RD` (41 R141). -/
def execAIdRd (s : State) : Result :=
  s.memRead s.cfg.regId fun r s1 =>
    match r with
    | .err => .next (s1.fail .transportError)
    | .byte b =>
      if b ≠ s.cfg.chipId then .next (s1.fail .identityMismatch)
      else .next { s1 with lifecycle := .identityChecked, phase := .aRstWr }

/-- `A_RST_WR` (41 R142). -/
def execARstWr (s : State) : Result :=
  s.memWrite s.cfg.regReset s.cfg.resetCmd fun r s1 =>
    match r with
    | .err => .next (s1.fail .transportError)
    | .ok => .next { s1 with lifecycle := .reset, phase := .aRstDly }

/-- `A_RST_DLY` (41 R143). -/
def execARstDly (s : State) : Result :=
  s.delay s.cfg.resetDelayMs fun s1 =>
    .next { s1 with pollCnt := 0#4, phase := .aPollRd }

/-- `A_POLL_RD` (41 R144). -/
def execAPollRd (s : State) : Result :=
  s.memRead s.cfg.regStatus fun r s1 =>
    match r with
    | .err => .next (s1.fail .transportError)
    | .byte b =>
      if b &&& s.cfg.imUpdateMask = 0#8 then .next { s1 with phase := .aCfgCtrlWr }
      else .next { s1 with pollCnt := s1.pollCnt + 1#4, phase := .aPollDly }

/-- `A_POLL_DLY` (41 R145, R146). -/
def execAPollDly (s : State) : Result :=
  s.delay s.cfg.pollDelayMs fun s1 =>
    if s1.pollCnt = s.cfg.pollMax then .next { s1.setWarn pollExhausted with phase := .aCfgCtrlWr }
    else .next { s1 with phase := .aPollRd }

/-- `A_CFG_CTRL_WR` (41 R147). -/
def execACfgCtrlWr (s : State) : Result :=
  s.memWrite s.cfg.regCtrlMeas s.cfg.ctrlMeasValue fun r s1 =>
    match r with
    | .err => .next (s1.fail .transportError)
    | .ok => .next { s1 with phase := .aCfgConfigWr }

/-- `A_CFG_CONFIG_WR` (41 R148). -/
def execACfgConfigWr (s : State) : Result :=
  s.memWrite s.cfg.regConfig s.cfg.configValue fun r s1 =>
    match r with
    | .err => .next (s1.fail .transportError)
    | .ok => .next { s1 with calIdx := 0, phase := .aCalRd }

/-- The store's part of `A_CAL_RD`: an even byte waits in `BYTE_LO`, an odd one completes its word (41 R149). -/
def State.storeCalByte (b : Byte) (s : State) : State :=
  if s.calIdx.val % 2 = 0 then { s with byteLo := b }
  else { s with cal := s.cal.set (calWordIdx s.calIdx).val (u16le b s.byteLo) (calWordIdx s.calIdx).isLt }

/-- `A_CAL_RD` (41 R149). -/
def execACalRd (s : State) : Result :=
  s.memRead (calAddr s.cfg s.calIdx) fun r s1 =>
    match r with
    | .err => .next (s1.fail .transportError)
    | .byte b =>
      if h : s.calIdx.val < 23 then
        .next { s1.storeCalByte b with calIdx := ⟨s.calIdx.val + 1, by omega⟩ }
      else
        .next ({ s1.storeCalByte b with calValid := true, lifecycle := .ready }.respond .ok)

end Sys2Proof.Machine
end

