-- ==== Sys2Proof/Machine/ReadSequencer.lean ====
section
/-! DEFINITION. The meanings of R_RAW_RD and D_SLEEP_WR (42_read_sequencer). -/

namespace Sys2Proof.Machine

/-- `R_RAW_RD` (42 R172, R174). -/
def execRRawRd (s : State) : Result :=
  s.memRead (rawAddr s.cfg s.rawIdx) fun r s1 =>
    match r with
    | .err => .next (s1.respond .transportError)
    | .byte b =>
      let s2 := { s1 with rawb := s1.rawb.set s.rawIdx.val b s.rawIdx.isLt }
      if h : s.rawIdx.val < 5 then .next { s2 with rawIdx := ⟨s.rawIdx.val + 1, by omega⟩ }
      else .next { s2 with phase := .rCompT }

/-- `D_SLEEP_WR` (42 R176): a transport error only sets a warning. -/
def execDSleepWr (s : State) : Result :=
  s.memWrite s.cfg.regCtrlMeas s.cfg.sleepValue fun r s1 =>
    let s2 :=
      match r with
      | .err => s1.setWarn sleepWriteFailed
      | .ok => s1
    .next ({ s2 with lifecycle := .unattached, calValid := false }.respond .ok)

end Sys2Proof.Machine
end

