-- ==== Sys2Proof/Machine/Dispatch.lean ====
section
/-! DEFINITION. `exec`: one arm per operation. -/

namespace Sys2Proof.Machine

def exec (i : Instr) (s : State) : Host.Outcome State Fault Refusal :=
  match i with
  -- host commands
  | .nop => Sys2Proof.Machine.execNop s
  | .attach => Sys2Proof.Machine.execAttach s
  | .read => Sys2Proof.Machine.execRead s
  | .detach => Sys2Proof.Machine.execDetach s
  -- micro-operations
  | .idle => Sys2Proof.Machine.execIdle s
  | .aIdRd => Sys2Proof.Machine.execAIdRd s
  | .aRstWr => Sys2Proof.Machine.execARstWr s
  | .aRstDly => Sys2Proof.Machine.execARstDly s
  | .aPollRd => Sys2Proof.Machine.execAPollRd s
  | .aPollDly => Sys2Proof.Machine.execAPollDly s
  | .aCfgCtrlWr => Sys2Proof.Machine.execACfgCtrlWr s
  | .aCfgConfigWr => Sys2Proof.Machine.execACfgConfigWr s
  | .aCalRd => Sys2Proof.Machine.execACalRd s
  | .rRawRd => Sys2Proof.Machine.execRRawRd s
  | .rCompT => Sys2Proof.Machine.execRCompT s
  | .rCompP => Sys2Proof.Machine.execRCompP s
  | .dSleepWr => Sys2Proof.Machine.execDSleepWr s
  -- transactions and delays
  | .rd8 addr => Sys2Proof.Machine.execRd8 addr s
  | .wr8 addr v => Sys2Proof.Machine.execWr8 addr v s
  | .dly ms => Sys2Proof.Machine.execDly ms s

end Sys2Proof.Machine
end

