-- ==== Sys2Proof/Machine/Fetch.lean ====
section
/-! DEFINITION. Which operation a step runs, the sampling of `rst`, and how a word is presented to the block. -/

namespace Sys2Proof.Machine

/-- The transaction on offer or awaiting its answer. -/
def State.outstanding (s : State) : Option (BitVec 17) :=
  match s.chReq with
  | some w => some w
  | none => s.chPending

/-- The word the next step runs: the micro-operation `PHASE` names (10_state R23).
A request outstanding while the sequencer is idle runs by itself; no run reaches such a state
(DESIGN CHOICE, log entry 11: it is how `presentWord` presents a transaction or a delay). -/
def State.fetched (s : State) : PortWord :=
  match s.phase, s.outstanding, s.dlyReq with
  | .idle, some w, _ => .ch w
  | .idle, none, some ms => .dly ms
  | p, _, _ => .uop (phaseCode p)

/-- Run the word a step selects. -/
def runFetched (s : State) : Result :=
  match decode s.fetched with
  | .ok i => exec i s
  | .error e => .refused (.reservedWord e)

/-- What every step does first: the sample of `rst` is used up, the pulse `rsp_valid` ends (40 R122, log entry 18), and a port
without a value may show another one (log entry 20). -/
def State.beginStep (s : State) : State := { s with rst := s.rst.tail, rspValid := false, freeCnt := s.freeCnt + 1 }

/-- Whether `rst = 1` in this step. -/
def State.rstNow (s : State) : Bool :=
  match s.rst with
  | true :: _ => true
  | _ => false

/-- One step of the block (00_scope R7): reset overrides everything (60_exceptions R238), else one micro-operation. -/
def stepBlock (s : State) : Result :=
  if s.rstNow then .next s.beginStep.hardReset else runFetched s.beginStep

/-- The state in which the next step runs exactly the given word (log entry 11). -/
def presentWord (p : PortWord) (s : State) : State :=
  let quiet := { s with rst := false :: s.rst, chReq := none, chPending := none, dlyReq := none }
  match p with
  | .cmd op => { quiet with phase := .idle, cmdIn := some op :: s.cmdIn }
  | .uop code =>
    match phaseOfCode code with
    | some .idle => { quiet with phase := .idle, cmdIn := none :: s.cmdIn }
    | some ph => { quiet with phase := ph }
    | none => s
  | .ch w => { quiet with phase := .idle, chReq := some w }
  | .dly ms => { quiet with phase := .idle, dlyReq := some ms }

/-- `presentWord` for a word numbered as the table numbers it. -/
def presentTableWord (s : State) (nbits w : Nat) : State :=
  match tablePort nbits w with
  | some p => presentWord p s
  | none => s

end Sys2Proof.Machine
end

