-- ==== Sys2Proof/Machine/Step.lean ====
section
/-! DEFINITION. The step of the machine. -/

namespace Sys2Proof.Machine

/-- One step (00_scope R7; 92 D1). -/
def step : State → Host.Outcome State Fault Refusal := stepBlock

/-- `s` with a table word placed where the next step takes its operation from (log entries 10, 11). -/
def State.withFetchWord (s : State) (nbits w : Nat) : State := presentTableWord s nbits w

end Sys2Proof.Machine
end

