-- ==== Sys2Proof/Machine/Ports.lean ====
section
/-! DEFINITION. The ports as functions of the state (30_encoding R91). -/

namespace Sys2Proof.Machine

/-- `BUSY`: the predicate `PHASE != IDLE` (10_state R24). -/
def State.busy (s : State) : Bool := s.phase != .idle

/-- The output ports of 30_encoding R91, widths as its table gives them.
The three reading ports are `none` when they hold no value (10_state R50, 30_encoding R93); the bits a host that samples them then
gets are `State.sampleReading`'s. -/
structure Ports where
  cmdReady        : Bool
  rspValid        : Bool
  rspStatus       : BitVec 3
  rspWarn         : BitVec 2
  rspReadingValid : Bool
  rspTemp         : Option S64
  rspPressX256    : Option S64
  rspPressPa      : Option S64
  state           : BitVec 3
  lastErr         : BitVec 3
  chReqValid      : Bool
  chReq           : Option (BitVec 17)
  dlyReqValid     : Bool
  dlyReqMs        : Option (BitVec 8)
deriving DecidableEq, Repr

/-- What the ports show after the step that led to this state: `ch_req_valid` is 1 until the channel has accepted (30_encoding R90). -/
def State.ports (s : State) : Ports where
  cmdReady        := !s.busy
  rspValid        := s.rspValid
  rspStatus       := statusCode s.rspStatus
  rspWarn         := s.rspWarn
  rspReadingValid := s.outValid
  rspTemp         := s.readingPorts.map Reading.temp
  rspPressX256    := s.readingPorts.map Reading.pressX256
  rspPressPa      := s.readingPorts.map Reading.pressPa
  state           := lifecycleCode s.lifecycle
  lastErr         := statusCode s.lastErr
  chReqValid      := s.chReq.isSome
  chReq           := s.chReq
  dlyReqValid     := s.dlyReq.isSome
  dlyReqMs        := s.dlyReq

/-- What a host gets that samples the reading ports: the reading, or with `rsp_reading_valid = 0` "no defined value", a free
value for each port and step, and the machine goes on (10_state R50, 93 U19; log entry 20). -/
def State.sampleReading (s : State) : Reading :=
  match s.readingPorts with
  | some r => r
  | none => ⟨Config.freeTemp s.freeCnt, Config.freePressX256 s.freeCnt, Config.freePressPa s.freeCnt⟩

/-- The input ports of 30_encoding R91, widths as its table gives them, without the clock.
A payload is `none` while its `valid` is 0. -/
structure InPorts where
  rst        : Bool
  cmdValid   : Bool
  cmdOp      : Option (BitVec 2)
  chReqReady : Bool
  chRspValid : Bool
  chRsp      : Option (BitVec 9)
  dlyDone    : Bool
deriving DecidableEq, Repr

/-- `ch_rsp` where `ch_rsp_valid = 1` in this step, whether or not a transaction awaits it. -/
def State.channelRsp (s : State) : Option (BitVec 9) :=
  match s.chIn with
  | e :: _ => e.rsp
  | [] => none

/-- What the next step samples, each port if the step looks at it. -/
def State.inPorts (s : State) : InPorts where
  rst        := s.rstNow
  cmdValid   := s.commandOffered.isSome
  cmdOp      := s.commandOffered
  chReqReady := s.channelReady
  chRspValid := s.channelRsp.isSome
  chRsp      := s.channelRsp
  dlyDone    := s.timerDone

end Sys2Proof.Machine
end

