-- ==== Sys2Proof/Safety.lean ====
section
/-! DEFINITION. The terms the claims use: when a step waits, the tables of lifecycle and phase transitions (40 R131, R132),
the invariant of every reachable state, the bound on a command's length (40 R133), and the end of a run (70_reset R265). -/

namespace Sys2Proof.Machine

/-- The channel's answer of this step as the answer to a read. -/
def State.readAnswerNow (s : State) : Option ReadAnswer := s.channelAnswer.map readAnswer

/-- The channel's answer of this step as the answer to a write. -/
def State.writeAnswerNow (s : State) : Option WriteAnswer := s.channelAnswer.map writeAnswer

/-- The `CH` word the micro-operation of a phase issues (30_encoding R99). -/
def State.phaseRequest (s : State) : Option (BitVec 17) :=
  match s.phase with
  | .aIdRd => some (rd8Word s.cfg.regId)
  | .aRstWr => some (wr8Word s.cfg.regReset s.cfg.resetCmd)
  | .aPollRd => some (rd8Word s.cfg.regStatus)
  | .aCfgCtrlWr => some (wr8Word s.cfg.regCtrlMeas s.cfg.ctrlMeasValue)
  | .aCfgConfigWr => some (wr8Word s.cfg.regConfig s.cfg.configValue)
  | .aCalRd => some (rd8Word (calAddr s.cfg s.calIdx))
  | .rRawRd => some (rd8Word (rawAddr s.cfg s.rawIdx))
  | .dSleepWr => some (wr8Word s.cfg.regCtrlMeas s.cfg.sleepValue)
  | .idle | .aRstDly | .aPollDly | .rCompT | .rCompP => none

/-- The `DLY` word the micro-operation of a phase issues (30_encoding R99). -/
def State.phaseDelay (s : State) : Option (BitVec 8) :=
  match s.phase with
  | .aRstDly => some s.cfg.resetDelayMs
  | .aPollDly => some s.cfg.pollDelayMs
  | .idle | .aIdRd | .aRstWr | .aPollRd | .aCfgCtrlWr | .aCfgConfigWr | .aCalRd | .rRawRd | .rCompT | .rCompP | .dSleepWr => none

/-- A step in which the micro-operation cannot finish: the channel or the timer is silent, or in `IDLE` no command is offered
(40 R121, R133). -/
def State.waiting (s : State) : Bool :=
  match s.phase with
  | .idle => s.commandOffered.isNone
  | .aRstDly | .aPollDly => !s.timerDone
  | .aIdRd | .aRstWr | .aPollRd | .aCfgCtrlWr | .aCfgConfigWr | .aCalRd | .rRawRd | .dSleepWr => s.channelAnswer.isNone
  | .rCompT | .rCompP => false

/-- The phase transitions of 40 R132, row by row: the edge taken when the micro-operation has finished. -/
def State.phaseTable (s : State) : Phase :=
  match s.phase with
  | .idle =>
    match s.commandOffered with
    | some 1#2 => if s.lifecycle = .unattached then .aIdRd else .idle
    | some 2#2 => if s.lifecycle = .ready then .rRawRd else .idle
    | some 3#2 => if s.lifecycle = .ready then .dSleepWr else .idle
    | _ => .idle
  | .aIdRd => if s.readAnswerNow = some (.byte s.cfg.chipId) then .aRstWr else .idle
  | .aRstWr => if s.writeAnswerNow = some .ok then .aRstDly else .idle
  | .aRstDly => .aPollRd
  | .aPollRd =>
    match s.readAnswerNow with
    | some (.byte b) => if b &&& s.cfg.imUpdateMask = 0#8 then .aCfgCtrlWr else .aPollDly
    | _ => .idle
  | .aPollDly => if s.pollCnt.toNat < s.cfg.pollMax.toNat then .aPollRd else .aCfgCtrlWr
  | .aCfgCtrlWr => if s.writeAnswerNow = some .ok then .aCfgConfigWr else .idle
  | .aCfgConfigWr => if s.writeAnswerNow = some .ok then .aCalRd else .idle
  | .aCalRd =>
    match s.readAnswerNow with
    | some (.byte _) => if s.calIdx.val < 23 then .aCalRd else .idle
    | _ => .idle
  | .rRawRd =>
    match s.readAnswerNow with
    | some (.byte _) => if s.rawIdx.val < 5 then .rRawRd else .rCompT
    | _ => .idle
  | .rCompT => .rCompP
  | .rCompP => .idle
  | .dSleepWr => .idle

/-- The lifecycle transitions of 40 R131, row by row, for a step that finishes its micro-operation without `rst`;
where no row applies, `STATE` is kept. -/
def State.lifecycleTable (s : State) : Lifecycle :=
  match s.lifecycle, s.phase with
  | .unattached, .aIdRd => if s.readAnswerNow = some (.byte s.cfg.chipId) then .identityChecked else .failed
  | .identityChecked, .aRstWr => if s.writeAnswerNow = some .ok then .reset else .failed
  | .reset, .aCalRd =>
    if s.readAnswerNow = some .err then .failed else if s.calIdx.val = 23 then .ready else .reset
  | .reset, .aPollRd => if s.readAnswerNow = some .err then .failed else .reset
  | .reset, .aCfgCtrlWr => if s.writeAnswerNow = some .err then .failed else .reset
  | .reset, .aCfgConfigWr => if s.writeAnswerNow = some .err then .failed else .reset
  | .ready, .dSleepWr => .unattached
  | .failed, .idle => if s.commandOffered = some 3#2 then .unattached else .failed
  | l, _ => l

/-- Which lifecycle state each phase runs in (10_state R22, 40 R131, R132). -/
def phaseLifecycle (p : Phase) (l : Lifecycle) : Bool :=
  match p with
  | .idle => l == .unattached || l == .ready || l == .failed
  | .aIdRd => l == .unattached
  | .aRstWr => l == .identityChecked
  | .aRstDly | .aPollRd | .aPollDly | .aCfgCtrlWr | .aCfgConfigWr | .aCalRd => l == .reset
  | .rRawRd | .rCompT | .rCompP | .dSleepWr => l == .ready

/-- The invariant of every reachable state. -/
structure Invariant (s : State) : Prop where
  /-- The parameters meet 00_scope R10 (the mode bits: log entry 19). -/
  cfgWf : s.cfg.wf = true
  /-- 10_state R22: the transient states are held only while an ATTACH is in execution; each phase has its lifecycle state. -/
  lifecycleOfPhase : phaseLifecycle s.phase s.lifecycle = true
  /-- 10_state R33: `STATE = Ready <-> CAL_VALID = 1`. -/
  calValidIffReady : s.calValid = (s.lifecycle == .ready)
  /-- 10_state R45: `LAST_ERR` holds the cause in `Failed` and `OK` in every other lifecycle state. -/
  lastErrOfFailed :
    (s.lifecycle = .failed → s.lastErr = .identityMismatch ∨ s.lastErr = .transportError) ∧
    (s.lifecycle ≠ .failed → s.lastErr = .ok)
  /-- 10_state R25: `POLL_CNT` is at most `POLL_MAX`. -/
  pollBound : s.pollCnt.toNat ≤ s.cfg.pollMax.toNat
  /-- 41 R144: a status read is issued only while `POLL_CNT` is below `POLL_MAX`. -/
  pollReadBound : s.phase = .aPollRd → s.pollCnt.toNat < s.cfg.pollMax.toNat
  /-- 20_memory R74, 30_encoding R90: the only request that can be on offer is the present micro-operation's. -/
  requestOfPhase : s.chReq = none ∨ s.chReq = s.phaseRequest
  /-- 20_memory R74, 30_encoding R90: the only transaction that can await its answer is the present micro-operation's. -/
  pendingOfPhase : s.chPending = none ∨ s.chPending = s.phaseRequest
  /-- 20_memory R74, 30_encoding R90: once accepted a request is no longer on offer. -/
  oneTransaction : s.chReq = none ∨ s.chPending = none
  /-- 20_memory R74, R75: the same for the timer. -/
  delayOfPhase : s.dlyReq = none ∨ s.dlyReq = s.phaseDelay
  /-- 43 R215, 70_reset R273: what R_COMP_P uses comes from the six bytes of the same READ. -/
  sameSample : s.phase = .rCompP →
    s.rawT = rawTemp s.cfg.readOrder s.rawb ∧
    (s.tFine, s.tempNew) = compTCal (rawTemp s.cfg.readOrder s.rawb) s.cal
  /-- 10_state R41: the pascal output is the other output divided by 256. -/
  pascalOutput : s.outValid = true → s.pressPaOut = sdiv64 s.pressX256Out 256#64

/-- How many micro-operations the command in execution can still take (40 R133). -/
def State.remaining (s : State) : Nat :=
  match s.phase with
  | .idle => 0
  | .aIdRd => 29 + 2 * s.cfg.pollMax.toNat
  | .aRstWr => 28 + 2 * s.cfg.pollMax.toNat
  | .aRstDly => 27 + 2 * s.cfg.pollMax.toNat
  | .aPollRd => 26 + 2 * (s.cfg.pollMax.toNat - s.pollCnt.toNat)
  | .aPollDly => 27 + 2 * (s.cfg.pollMax.toNat - s.pollCnt.toNat)
  | .aCfgCtrlWr => 26
  | .aCfgConfigWr => 25
  | .aCalRd => 24 - s.calIdx.val
  | .rRawRd => 8 - s.rawIdx.val
  | .rCompT => 2
  | .rCompP => 1
  | .dSleepWr => 1

/-- The channel accepts and gives this answer in one step. -/
def ChannelInput.answer (w : BitVec 9) : ChannelInput := ⟨true, some w⟩

/-- The channel accepts a read and gives this byte in one step. -/
def ChannelInput.byte (b : Byte) : ChannelInput := .answer (0#1 ++ b)

/-- The channel and the timer keep their duty in each of the next `n` steps and `rst` stays 0 (70_reset R264). -/
def State.prompt (n : Nat) (s : State) : Prop :=
  n ≤ s.chIn.length ∧ n ≤ s.dlyIn.length ∧
  (∀ e ∈ s.chIn, e.ready = true ∧ e.rsp.isSome = true) ∧ (∀ d ∈ s.dlyIn, d = true) ∧ (∀ r ∈ s.rst, r = false)

/-- Whether an event is a transaction or a delay (20_memory R74). -/
def Event.isRequest : Event → Bool
  | .rd8 _ _ | .wr8 _ _ _ | .dly _ => true
  | .rsp _ => false

/-! ### The end of a run (70_reset R265) -/

/-- The responses given so far in the run. -/
def State.responses (s : State) : Nat := (s.trace.filter fun e => !e.isRequest).length

/-- The block idles: `IDLE`, and no command is offered in this step. -/
def State.idling (s : State) : Bool := s.phase == .idle && s.waiting

/-- A step held up in a micro-operation: its agent is silent. -/
def State.held (s : State) : Bool := s.phase != .idle && s.waiting

/-- The run of a script of `n` commands is over: every command accepted and answered, nothing outstanding, nothing more
offered (70_reset R265). -/
def State.runOver (n : Nat) (s : State) : Bool :=
  s.phase == .idle && s.chReq.isNone && s.chPending.isNone && s.dlyReq.isNone &&
  s.responses == n && s.cmdIn.all Option.isNone

/-- The channel never answers: `taken` says whether it has accepted the transaction. -/
def neverAnswers (taken : Bool) : List ChannelInput → Bool
  | [] => true
  | e :: rest => if taken || e.ready then e.rsp.isNone && neverAnswers true rest else neverAnswers false rest

/-- The sequencer is stuck: it waits for an answer or a completion that does not come (70_reset R264, R265). -/
def State.stuck (s : State) : Bool :=
  match s.phase with
  | .aRstDly | .aPollDly => s.dlyIn.all (· == false)
  | .aIdRd | .aRstWr | .aPollRd | .aCfgCtrlWr | .aCfgConfigWr | .aCalRd | .rRawRd | .dSleepWr =>
    neverAnswers s.chPending.isSome s.chIn
  | .idle | .rCompT | .rCompP => false

/-- The observable end state of a run: port values, the reading only where `rsp_reading_valid = 1`, and the trace of `RD8`,
`WR8` and `DLY` events (70_reset R265). -/
structure EndState where
  state        : BitVec 3
  rspStatus    : BitVec 3
  rspWarn      : BitVec 2
  lastErr      : BitVec 3
  readingValid : Bool
  reading      : Option Reading
  events       : List Event
deriving DecidableEq, Repr

/-- What an observer sees of a state when the run is over. -/
def State.endState (s : State) : EndState where
  state        := s.ports.state
  rspStatus    := s.ports.rspStatus
  rspWarn      := s.ports.rspWarn
  lastErr      := s.ports.lastErr
  readingValid := s.ports.rspReadingValid
  reading      := s.readingPorts
  events       := s.trace.filter Event.isRequest

end Sys2Proof.Machine
end

