-- ==== Sys2Proof/Certificates/Slice0/Obligations.lean ====
section
/-! DEFINITION. The statements for the provers. Each docstring names the rules of spec/ it formalises. -/

open Sys2Proof Sys2Proof.Machine

/-! ### Encodings -/

/-- 30_encoding section 2: every well-formed instruction is decoded from its word, and every word the decoder accepts is
the word of the instruction it gives. -/
def Obligations.DecodeAndEncodeAgree : Prop :=
  (∀ i : Instr, i.wf = true → decode (encode i) = .ok i) ∧
  (∀ (p : PortWord) (i : Instr), decode p = .ok i → i.wf = true ∧ encode i = p)

/-- The words of 95_test_vectors EN1 to EN5 and EN7 and the codes of 30_encoding R97 decode to the operations they stand for. -/
def Obligations.WordsOfTheSpecDecode : Prop :=
  [0b00#2, 0b01#2, 0b10#2, 0b11#2].map (fun c => decode (.cmd c)) =
    [.ok .nop, .ok .attach, .ok .read, .ok .detach] ∧
  [0#4, 1#4, 2#4, 3#4, 4#4, 5#4, 6#4].map (fun c => decode (.uop c)) =
    [.ok .idle, .ok .aIdRd, .ok .aRstWr, .ok .aRstDly, .ok .aPollRd, .ok .aPollDly, .ok .aCfgCtrlWr] ∧
  [7#4, 8#4, 9#4, 10#4, 11#4, 12#4].map (fun c => decode (.uop c)) =
    [.ok .aCfgConfigWr, .ok .aCalRd, .ok .rRawRd, .ok .rCompT, .ok .rCompP, .ok .dSleepWr] ∧
  decode (.ch 0b01101000000000000#17) = .ok (.rd8 0xD0#8) ∧
  decode (.ch 0b11110000010110110#17) = .ok (.wr8 0xE0#8 0xB6#8) ∧
  decode (.ch 0x09F00#17) = .ok (.rd8 0x9F#8) ∧
  decode (.ch 0x1F427#17) = .ok (.wr8 0xF4#8 0x27#8) ∧
  decode (.ch 0x1F500#17) = .ok (.wr8 0xF5#8 0x00#8) ∧
  decode (.ch 0x1F400#17) = .ok (.wr8 0xF4#8 0x00#8) ∧
  decode (.dly 0x02#8) = .ok (.dly 2#8) ∧
  decode (.dly 0x01#8) = .ok (.dly 1#8)

/-- 30_encoding R102: the reserved words are no operations and no states. -/
def Obligations.ReservedWordsAreRejected : Prop :=
  (∀ c : BitVec 4, 13 ≤ c.toNat → decode (.uop c) = .error .reservedPhase) ∧
  (∀ w : BitVec 17, w.toNat < 65536 → w.toNat % 256 ≠ 0 → decode (.ch w) = .error .readCarriesData) ∧
  decode (.dly 0#8) = .error .zeroDelay ∧
  (∀ c : BitVec 3, 5 ≤ c.toNat → lifecycleOfCode c = none) ∧
  (∀ c : BitVec 3, 6 ≤ c.toNat → statusOfCode c = none)

/-- 30_encoding R95: bit 8 is `err`; with it set `rdata` is ignored, else a read gets `rdata` and a write gets `Ok`. -/
def Obligations.ChannelAnswerFormat : Prop :=
  ∀ w : BitVec 9,
    (256 ≤ w.toNat → readAnswer w = .err ∧ writeAnswer w = .err) ∧
    (w.toNat < 256 → readAnswer w = .byte (BitVec.ofNat 8 w.toNat) ∧ writeAnswer w = .ok)

/-! ### The step, the ports and reset -/

/-- A step runs the operation its word decodes to: in a busy block the micro-operation of `PHASE`, in an idle one the
command the host offers, or `IDLE`; `rst` comes first; a reserved word is refused. -/
def Obligations.StepRunsDecodedInstruction : Prop :=
  (∀ (s : State) (i : Instr), s.rstNow = false → decode s.fetched = .ok i → step s = exec i s.beginStep) ∧
  (∀ (s : State) (e : Reject), s.rstNow = false → decode s.fetched = .error e → step s = .refused (.reservedWord e)) ∧
  (∀ s : State, s.phase ≠ .idle → s.fetched = .uop (phaseCode s.phase)) ∧
  (∀ s : State, s.chReq = none → s.chPending = none → s.dlyReq = none → s.fetched = .uop (phaseCode s.phase)) ∧
  (∀ (s : State) (op : BitVec 2), s.rstNow = false → s.phase = .idle → s.chReq = none → s.chPending = none →
    s.dlyReq = none → s.commandOffered = some op →
    step s = exec (decodeCmd op)
      { s with rst := s.rst.tail, rspValid := false, cmdIn := s.cmdIn.tail, freeCnt := s.freeCnt + 1 }) ∧
  (∀ s : State, s.rstNow = true → step s = .next s.beginStep.hardReset)

/-- The model's convention (log entries 10, 11): a table word placed by `withFetchWord` is what the very next step runs,
on a state that differs only in `PHASE`, the pulse `rsp_valid`, the request ports, the command port and the counter of the free
values, which every step advances. -/
def Obligations.PlacedTableWordRunsNext : Prop :=
  ∀ (s : State) (nbits w : Nat) (i : Instr), decodeTableWord nbits w = some i →
    ∃ (ph : Phase) (c : List (Option (BitVec 2))) (q : Option (BitVec 17)) (d : Option (BitVec 8)),
      step (s.withFetchWord nbits w) =
        exec i { s with
          phase := ph, rspValid := false, cmdIn := c, chReq := q, chPending := none, dlyReq := d, freeCnt := s.freeCnt + 1 }

/-- 30_encoding R91, R96, 60_exceptions R230, 10_state R24, R50: what the ports show; the reading ports sampled with
`rsp_reading_valid = 0` give no defined value (93 U19), which in the model is a free value for each port and step (log entry 20),
whatever the output registers hold. -/
def Obligations.PortsShowRegisters : Prop :=
  (∀ s : State,
    (s.ports.cmdReady = true ↔ s.phase = .idle) ∧
    lifecycleOfCode s.ports.state = some s.lifecycle ∧
    statusOfCode s.ports.rspStatus = some s.rspStatus ∧
    statusOfCode s.ports.lastErr = some s.lastErr ∧
    s.ports.rspValid = s.rspValid ∧ s.ports.rspWarn = s.rspWarn ∧ s.ports.rspReadingValid = s.outValid ∧
    (s.outValid = false →
      s.sampleReading = ⟨Config.freeTemp s.freeCnt, Config.freePressX256 s.freeCnt, Config.freePressPa s.freeCnt⟩ ∧
      s.ports.rspTemp = none ∧ s.ports.rspPressX256 = none ∧ s.ports.rspPressPa = none) ∧
    (s.outValid = true → s.sampleReading = ⟨s.tempOut, s.pressX256Out, s.pressPaOut⟩ ∧
      s.ports.rspTemp = some s.tempOut ∧ s.ports.rspPressX256 = some s.pressX256Out ∧
      s.ports.rspPressPa = some s.pressPaOut) ∧
    (s.ports.chReqValid = true ↔ ∃ q, s.chReq = some q ∧ s.ports.chReq = some q) ∧
    (s.ports.dlyReqValid = true ↔ ∃ ms, s.dlyReq = some ms ∧ s.ports.dlyReqMs = some ms)) ∧
  [Lifecycle.unattached, .identityChecked, .reset, .ready, .failed].map lifecycleCode = [0#3, 1#3, 2#3, 3#3, 4#3] ∧
  [Status.ok, .identityMismatch, .transportError, .notReady, .degeneratePressure, .badState].map statusCode =
    [0#3, 1#3, 2#3, 3#3, 4#3, 5#3]

/-- 10_state R49, 70_reset R260, R261: the registers the spec gives a reset value have it in `State.reset` and after any
step with `rst = 1`, whatever `PHASE` is, and no request is issued.
(The registers that hold no value are left out: their values are the model's, log entry 3.) -/
def Obligations.ResetGivesTheSpecsValues : Prop :=
  (∀ s : State, s.rstNow = true →
    ∃ t, step s = .next t ∧
      t.lifecycle = .unattached ∧ t.phase = .idle ∧ t.pollCnt = 0#4 ∧ t.calIdx = 0 ∧ t.rawIdx = 0 ∧
      t.calValid = false ∧ t.outValid = false ∧ t.rspStatus = .ok ∧ t.rspWarn = 0#2 ∧ t.warn = 0#2 ∧
      t.lastErr = .ok ∧ t.rspValid = false ∧ t.chReq = none ∧ t.chPending = none ∧ t.dlyReq = none ∧ t.trace = [] ∧
      t.cfg = s.cfg ∧ t.cmdIn = s.cmdIn) ∧
  State.reset.lifecycle = .unattached ∧ State.reset.phase = .idle ∧ State.reset.pollCnt = 0#4 ∧
  State.reset.calIdx = 0 ∧ State.reset.rawIdx = 0 ∧ State.reset.calValid = false ∧ State.reset.outValid = false ∧
  State.reset.rspStatus = .ok ∧ State.reset.rspWarn = 0#2 ∧ State.reset.warn = 0#2 ∧ State.reset.lastErr = .ok

/-- 70_reset R262: the answer, or the completion, of a transaction or delay that a reset dropped is ignored, however many
steps late it comes: the answer after it is then the first one. A request the channel had not accepted (30_encoding R90) is
withdrawn and has no late answer, and with nothing outstanding nothing is ignored. -/
def Obligations.LateAnswerAfterResetIsIgnored : Prop :=
  (∀ (s : State) (early rest : List ChannelInput) (ready : Bool) (a : BitVec 9), s.rstNow = true → s.chPending ≠ none →
    (∀ e ∈ early, e.rsp = none) → s.chIn = early ++ ⟨ready, some a⟩ :: rest →
    ∃ t, step s = .next t ∧ t.chReq = none ∧ t.chPending = none ∧ t.chIn = early ++ ⟨ready, none⟩ :: rest) ∧
  (∀ s : State, s.rstNow = true → s.chPending = none →
    ∃ t, step s = .next t ∧ t.chReq = none ∧ t.chPending = none ∧ t.chIn = s.chIn) ∧
  (∀ (s : State) (n : Nat) (rest : List Bool), s.rstNow = true → s.dlyReq ≠ none →
    s.dlyIn = List.replicate n false ++ true :: rest →
    ∃ t, step s = .next t ∧ t.dlyReq = none ∧ t.dlyIn = List.replicate n false ++ false :: rest) ∧
  (∀ s : State, s.rstNow = true → s.dlyReq = none → ∃ t, step s = .next t ∧ t.dlyIn = s.dlyIn)

/-- 30_encoding R90: in every phase with a transaction, `ch_req_valid` and the word stay until the channel is ready, whatever
`ch_rsp` shows; the step in which both are 1 transfers the one word, which is off the port after it; the answer is then
awaited, `ch_req_ready` no longer mattering, and makes one event. The command pair transfers in `IDLE` only.
(That an answer may come in the step of the transfer is the model's, log entry 8.) -/
def Obligations.HandshakesTransferOnce : Prop :=
  (∀ (s : State) (q : BitVec 17), Invariant s → s.rstNow = false → s.phaseRequest = some q →
    s.chPending = none → s.channelReady = false →
    ∃ t, step s = .next t ∧ t.chReq = some q ∧ t.chPending = none ∧ t.phase = s.phase ∧ t.phaseRequest = some q ∧
      t.ports.chReqValid = true ∧ t.ports.chReq = some q ∧ t.trace = s.trace) ∧
  (∀ (s : State) (q : BitVec 17) (rest : List ChannelInput), Invariant s → s.rstNow = false → s.phaseRequest = some q →
    s.chPending = none → s.chIn = ⟨true, none⟩ :: rest →
    ∃ t, step s = .next t ∧ t.chPending = some q ∧ t.phase = s.phase ∧ t.ports.chReqValid = false ∧
      t.trace = s.trace) ∧
  (∀ (s : State) (q : BitVec 17) (ready : Bool) (rest : List ChannelInput), Invariant s → s.rstNow = false →
    s.phaseRequest = some q → s.chPending = some q → s.chIn = ⟨ready, none⟩ :: rest →
    ∃ t, step s = .next t ∧ t.chPending = some q ∧ t.phase = s.phase ∧ t.ports.chReqValid = false ∧
      t.trace = s.trace) ∧
  (∀ (s : State) (q : BitVec 17) (ready : Bool) (a : BitVec 9) (rest : List ChannelInput), Invariant s → s.rstNow = false →
    s.phaseRequest = some q → (s.chPending = some q ∨ ready = true) → s.chIn = ⟨ready, some a⟩ :: rest →
    ∃ t, step s = .next t ∧ t.chReq = none ∧ t.chPending = none ∧ t.chIn = rest ∧
      ((t.trace.drop s.trace.length).filter Event.isRequest).length = 1) ∧
  (∀ s t : State, s.rstNow = false → step s = .next t → t.cmdIn ≠ s.cmdIn → s.ports.cmdReady = true)

/-! ### The shared procedures -/

/-- 60_exceptions R240 (41 R150): what `fail(code)` changes, that it changes nothing else, and that it is how an ATTACH
ends on a transport error or an identity mismatch. -/
def Obligations.FailWritesExactlyTheseRegisters : Prop :=
  (∀ (s : State) (code : Status),
     s.fail code =
       { s with
         lifecycle := .failed
         lastErr := code
         calValid := false
         rspStatus := code
         rspWarn := s.warn
         phase := .idle
         rspValid := true
         trace := s.trace ++ [.rsp ⟨code, s.warn, s.readingPorts⟩] }) ∧
  (∀ (s : State) (w : BitVec 9) (i : Instr), s.channelAnswer = some w → 256 ≤ w.toNat →
    i ∈ [Instr.aIdRd, .aRstWr, .aPollRd, .aCfgCtrlWr, .aCfgConfigWr, .aCalRd] →
    ∃ e : Event, e.isRequest = true ∧ exec i s = .next ((s.takeAnswer.record e).fail .transportError)) ∧
  (∀ (s : State) (w : BitVec 9), s.channelAnswer = some w → w.toNat < 256 → w.toNat ≠ s.cfg.chipId.toNat →
    ∃ e : Event, e.isRequest = true ∧ exec .aIdRd s = .next ((s.takeAnswer.record e).fail .identityMismatch))

/-- 43 R218: both outputs change together, the pascal output is the pressure divided by 256 rounded toward zero, and
nothing else changes; it is what `R_COMP_P` does before it responds. -/
def Obligations.PublishChangesAllOutputsTogether : Prop :=
  (∀ (s : State) (t p : S64),
     s.publish t p =
       { s with tempOut := t, pressX256Out := p, pressPaOut := sdiv64 p 256#64, outValid := true } ∧
     (s.publish t p).pressPaOut.toInt = p.toInt.sign * (p.toInt.natAbs / 256 : Nat)) ∧
  (∀ s : State,
    let cp := compPCal (rawPress s.cfg.readOrder s.rawb) s.tFine s.cal
    exec .rCompP s = .next
      (({ s with rawP := rawPress s.cfg.readOrder s.rawb }.publish s.tempNew cp.1).respond
        (if cp.2 then .degeneratePressure else .ok)))

/-- 40 R122: `respond` writes `RSP_STATUS`, `RSP_WARN`, `PHASE` and emits the response, and in every state a run reaches a
step gives a response exactly when it ends a command: one response event, the last of the step. A command in execution
whose agents keep their duty gets there, with no response before. -/
def Obligations.EveryCommandRespondsOnce : Prop :=
  (∀ (s : State) (st : Status),
    s.respond st =
      { s with
        rspStatus := st
        rspWarn := s.warn
        phase := .idle
        rspValid := true
        trace := s.trace ++ [.rsp ⟨st, s.warn, s.readingPorts⟩] }) ∧
  (∀ s t : State, Invariant s → s.rstNow = false → step s = .next t →
    (t.rspValid = true ↔ s.waiting = false ∧ t.phase = .idle) ∧
    ∃ reqs : List Event, (∀ e ∈ reqs, e.isRequest = true) ∧
      t.trace = s.trace ++ reqs ++
        (if t.rspValid then [.rsp ⟨t.rspStatus, t.rspWarn, t.readingPorts⟩] else [])) ∧
  (∀ s : State, Invariant s → s.phase ≠ .idle → s.prompt s.remaining →
    ∃ (n : Nat) (t : State) (reqs : List Event), n ≤ s.remaining ∧ Host.Core.run Sys2Proof.core n s = .next t ∧
      t.phase = .idle ∧ t.rspValid = true ∧ (∀ e ∈ reqs, e.isRequest = true) ∧
      t.trace = s.trace ++ reqs ++ [.rsp ⟨t.rspStatus, t.rspWarn, t.readingPorts⟩])

/-! ### Host commands -/

/-- 40 R123: `NOP` answers `OK`, and only the response registers (and `WARN`, cleared at acceptance) are written. -/
def Obligations.NopAnswersOk : Prop :=
  decode (.cmd 0b00#2) = .ok .nop ∧
  (∀ s : State,
     exec .nop s = .next
       { s with
         warn := 0#2
         rspStatus := .ok
         rspWarn := 0#2
         phase := .idle
         rspValid := true
         trace := s.trace ++ [.rsp ⟨.ok, 0#2, s.readingPorts⟩] })

/-- 40 R125 (and the acceptance of R124): `ATTACH` starts in `Unattached`; in every other lifecycle state (R124's guard
`STATE != Unattached`; `Ready` and `Failed` are the ones R125 names) it is answered `BadState`, with only `RSP_STATUS`,
`RSP_WARN`, `WARN` written and no transaction. -/
def Obligations.AttachNeedsUnattached : Prop :=
  decode (.cmd 0b01#2) = .ok .attach ∧
  (∀ s : State, s.lifecycle = .unattached → exec .attach s = .next { s with warn := 0#2, phase := .aIdRd }) ∧
  (∀ s : State, s.lifecycle ≠ .unattached →
    exec .attach s = .next
      { s with
        warn := 0#2
        rspStatus := .badState
        rspWarn := 0#2
        phase := .idle
        rspValid := true
        trace := s.trace ++ [.rsp ⟨.badState, 0#2, s.readingPorts⟩] })

/-- 40 R127 (and the acceptance of R126): `READ` starts in `Ready`; elsewhere it is answered `NotReady` without touching
the channel. -/
def Obligations.ReadNeedsReady : Prop :=
  decode (.cmd 0b10#2) = .ok .read ∧
  (∀ s : State, s.lifecycle = .ready →
    exec .read s = .next { s with warn := 0#2, rawIdx := 0, phase := .rRawRd }) ∧
  (∀ s : State, s.lifecycle ≠ .ready →
    exec .read s = .next
      { s with
        warn := 0#2
        rspStatus := .notReady
        rspWarn := 0#2
        phase := .idle
        rspValid := true
        trace := s.trace ++ [.rsp ⟨.notReady, 0#2, s.readingPorts⟩] })

/-- 40 R128, R129: `DETACH` in `Ready` goes on to the sleep write; in `Failed` it clears the failure and in `Unattached`
it changes nothing, both without a transaction. -/
def Obligations.DetachInEachLifecycleState : Prop :=
  decode (.cmd 0b11#2) = .ok .detach ∧
  (∀ s : State, s.lifecycle = .ready → exec .detach s = .next { s with warn := 0#2, phase := .dSleepWr }) ∧
  (∀ s : State, s.lifecycle = .failed →
    exec .detach s = .next
      { s with
        lifecycle := .unattached
        lastErr := .ok
        calValid := false
        warn := 0#2
        rspStatus := .ok
        rspWarn := 0#2
        phase := .idle
        rspValid := true
        trace := s.trace ++ [.rsp ⟨.ok, 0#2, s.readingPorts⟩] }) ∧
  (∀ s : State, s.lifecycle = .unattached →
    exec .detach s = .next
      { s with
        warn := 0#2
        rspStatus := .ok
        rspWarn := 0#2
        phase := .idle
        rspValid := true
        trace := s.trace ++ [.rsp ⟨.ok, 0#2, s.readingPorts⟩] })

/-- 40 R121: in `IDLE` an offered command is accepted, with `WARN` cleared; with none offered the block stays as it is;
while `PHASE != IDLE` the command port is closed and an offered command waits, unseen. -/
def Obligations.CommandsAreAcceptedOnlyInIdle : Prop :=
  (∀ (s : State) (op : BitVec 2), s.commandOffered = some op →
    exec .idle s = exec (decodeCmd op) { s with cmdIn := s.cmdIn.tail } ∧
    ∃ t, exec .idle s = .next t ∧ t.warn = 0#2 ∧ t.chReq = s.chReq ∧ t.dlyReq = s.dlyReq ∧
      ∃ evs : List Event, t.trace = s.trace ++ evs ∧ ∀ e ∈ evs, e.isRequest = false) ∧
  (∀ s : State, s.commandOffered = none → exec .idle s = .next { s with cmdIn := s.cmdIn.tail }) ∧
  (∀ s : State, s.ports.cmdReady = decide (s.phase = .idle)) ∧
  (∀ s t : State, s.phase ≠ .idle → s.rstNow = false → step s = .next t → t.cmdIn = s.cmdIn) ∧
  (∀ (s : State) (c : List (Option (BitVec 2))) (t : State), s.phase ≠ .idle → s.rstNow = false → step s = .next t →
    step { s with cmdIn := c } = .next { t with cmdIn := c })

/-! ### The micro-operations of ATTACH -/

/-- 41 R141: the identity read. -/
def Obligations.IdentityReadOutcomes : Prop :=
  decode (.uop 1#4) = .ok .aIdRd ∧
  (∀ s : State, s.channelAnswer = none →
    exec .aIdRd s = .next (s.awaitChannel ((0#1 ++ s.cfg.regId) ++ 0x00#8))) ∧
  (∀ (s : State) (w : BitVec 9), s.channelAnswer = some w →
     (readAnswer w = .err →
       exec .aIdRd s = .next ((s.takeAnswer.record (.rd8 s.cfg.regId .err)).fail .transportError)) ∧
     (∀ b : Byte, readAnswer w = .byte b → b ≠ s.cfg.chipId →
       exec .aIdRd s = .next ((s.takeAnswer.record (.rd8 s.cfg.regId (.byte b))).fail .identityMismatch)) ∧
     (readAnswer w = .byte s.cfg.chipId →
       exec .aIdRd s = .next
         { s with
           lifecycle := .identityChecked
           phase := .aRstWr
           chReq := none
           chPending := none
           chIn := s.chIn.tail
           trace := s.trace ++ [.rd8 s.cfg.regId (.byte s.cfg.chipId)] }))

/-- 41 R142: the soft-reset write. -/
def Obligations.ResetWriteOutcomes : Prop :=
  decode (.uop 2#4) = .ok .aRstWr ∧
  (∀ s : State, s.channelAnswer = none →
    exec .aRstWr s = .next (s.awaitChannel ((1#1 ++ s.cfg.regReset) ++ s.cfg.resetCmd))) ∧
  (∀ (s : State) (w : BitVec 9), s.channelAnswer = some w →
     (writeAnswer w = .err →
       exec .aRstWr s = .next ((s.takeAnswer.record (.wr8 s.cfg.regReset s.cfg.resetCmd .err)).fail .transportError)) ∧
     (writeAnswer w = .ok →
       exec .aRstWr s = .next
         { s with
           lifecycle := .reset
           phase := .aRstDly
           chReq := none
           chPending := none
           chIn := s.chIn.tail
           trace := s.trace ++ [.wr8 s.cfg.regReset s.cfg.resetCmd .ok] }))

/-- 41 R143: the delay after the soft reset; no `RD8` or `WR8` is issued before it completes. -/
def Obligations.ResetDelayPrecedesAnyAccess : Prop :=
  decode (.uop 3#4) = .ok .aRstDly ∧
  (∀ s : State, s.timerDone = true →
    exec .aRstDly s = .next
      { s with
        pollCnt := 0#4
        phase := .aPollRd
        dlyReq := none
        dlyIn := s.dlyIn.tail
        trace := s.trace ++ [.dly s.cfg.resetDelayMs] }) ∧
  (∀ s : State, s.timerDone = false →
    exec .aRstDly s = .next { s with dlyReq := some s.cfg.resetDelayMs, dlyIn := s.dlyIn.tail })

/-- 41 R144: the status read; only the masked bit is tested. -/
def Obligations.StatusReadOutcomes : Prop :=
  decode (.uop 4#4) = .ok .aPollRd ∧
  (∀ s : State, s.channelAnswer = none →
    exec .aPollRd s = .next (s.awaitChannel ((0#1 ++ s.cfg.regStatus) ++ 0x00#8))) ∧
  (∀ (s : State) (w : BitVec 9), s.channelAnswer = some w →
     (readAnswer w = .err →
       exec .aPollRd s = .next ((s.takeAnswer.record (.rd8 s.cfg.regStatus .err)).fail .transportError)) ∧
     (∀ b : Byte, readAnswer w = .byte b → b &&& s.cfg.imUpdateMask = 0#8 →
       exec .aPollRd s = .next
         { s with
           phase := .aCfgCtrlWr
           chReq := none
           chPending := none
           chIn := s.chIn.tail
           trace := s.trace ++ [.rd8 s.cfg.regStatus (.byte b)] }) ∧
     (∀ b : Byte, readAnswer w = .byte b → b &&& s.cfg.imUpdateMask ≠ 0#8 →
       exec .aPollRd s = .next
         { s with
           pollCnt := s.pollCnt + 1#4
           phase := .aPollDly
           chReq := none
           chPending := none
           chIn := s.chIn.tail
           trace := s.trace ++ [.rd8 s.cfg.regStatus (.byte b)] }))

/-- 41 R145: the delay after every failing poll, the last one included. -/
def Obligations.PollDelayOutcomes : Prop :=
  decode (.uop 5#4) = .ok .aPollDly ∧
  (∀ s : State, s.timerDone = false →
    exec .aPollDly s = .next { s with dlyReq := some s.cfg.pollDelayMs, dlyIn := s.dlyIn.tail }) ∧
  (∀ s : State, s.timerDone = true →
     (s.pollCnt = s.cfg.pollMax →
       exec .aPollDly s = .next
         { s with
           warn := s.warn ||| 0b10#2
           phase := .aCfgCtrlWr
           dlyReq := none
           dlyIn := s.dlyIn.tail
           trace := s.trace ++ [.dly s.cfg.pollDelayMs] }) ∧
     (s.pollCnt ≠ s.cfg.pollMax →
       exec .aPollDly s = .next
         { s with
           phase := .aPollRd
           dlyReq := none
           dlyIn := s.dlyIn.tail
           trace := s.trace ++ [.dly s.cfg.pollDelayMs] }))

/-- 41 R147, R148: the two configuration writes, in this order. -/
def Obligations.ConfigurationWriteOutcomes : Prop :=
  decode (.uop 6#4) = .ok .aCfgCtrlWr ∧
  (∀ s : State, s.channelAnswer = none →
    exec .aCfgCtrlWr s = .next (s.awaitChannel ((1#1 ++ s.cfg.regCtrlMeas) ++ s.cfg.ctrlMeasValue))) ∧
  decode (.uop 7#4) = .ok .aCfgConfigWr ∧
  (∀ s : State, s.channelAnswer = none →
    exec .aCfgConfigWr s = .next (s.awaitChannel ((1#1 ++ s.cfg.regConfig) ++ s.cfg.configValue))) ∧
  (∀ (s : State) (w : BitVec 9), s.channelAnswer = some w →
     (writeAnswer w = .err →
       exec .aCfgCtrlWr s =
         .next ((s.takeAnswer.record (.wr8 s.cfg.regCtrlMeas s.cfg.ctrlMeasValue .err)).fail .transportError) ∧
       exec .aCfgConfigWr s =
         .next ((s.takeAnswer.record (.wr8 s.cfg.regConfig s.cfg.configValue .err)).fail .transportError)) ∧
     (writeAnswer w = .ok →
       exec .aCfgCtrlWr s = .next
         { s with
           phase := .aCfgConfigWr
           chReq := none
           chPending := none
           chIn := s.chIn.tail
           trace := s.trace ++ [.wr8 s.cfg.regCtrlMeas s.cfg.ctrlMeasValue .ok] } ∧
       exec .aCfgConfigWr s = .next
         { s with
           calIdx := 0
           phase := .aCalRd
           chReq := none
           chPending := none
           chIn := s.chIn.tail
           trace := s.trace ++ [.wr8 s.cfg.regConfig s.cfg.configValue .ok] }))

/-- 41 R149: one byte of the calibration load, at `(CAL_BASE + CAL_IDX) mod 256`. -/
def Obligations.CalibrationReadOutcomes : Prop :=
  decode (.uop 8#4) = .ok .aCalRd ∧
  (∀ s : State, s.channelAnswer = none →
    exec .aCalRd s = .next (s.awaitChannel ((0#1 ++ (s.cfg.calBase + BitVec.ofNat 8 s.calIdx.val)) ++ 0x00#8))) ∧
  (∀ (s : State) (w : BitVec 9), s.channelAnswer = some w →
     (readAnswer w = .err →
       exec .aCalRd s =
         .next ((s.takeAnswer.record (.rd8 (s.cfg.calBase + BitVec.ofNat 8 s.calIdx.val) .err)).fail .transportError)) ∧
     (∀ b : Byte, readAnswer w = .byte b →
       (∀ h : s.calIdx.val < 23, s.calIdx.val % 2 = 0 →
         exec .aCalRd s = .next
           { s with
             byteLo := b
             calIdx := ⟨s.calIdx.val + 1, by omega⟩
             chReq := none
             chPending := none
             chIn := s.chIn.tail
             trace := s.trace ++ [.rd8 (s.cfg.calBase + BitVec.ofNat 8 s.calIdx.val) (.byte b)] }) ∧
       (∀ h : s.calIdx.val < 23, s.calIdx.val % 2 = 1 →
         exec .aCalRd s = .next
           { s with
             cal := s.cal.set (s.calIdx.val / 2) (b ++ s.byteLo) (by omega)
             calIdx := ⟨s.calIdx.val + 1, by omega⟩
             chReq := none
             chPending := none
             chIn := s.chIn.tail
             trace := s.trace ++ [.rd8 (s.cfg.calBase + BitVec.ofNat 8 s.calIdx.val) (.byte b)] }) ∧
       (s.calIdx.val = 23 →
         exec .aCalRd s = .next
           { s with
             cal := s.cal.set 11 (b ++ s.byteLo)
             calValid := true
             lifecycle := .ready
             rspStatus := .ok
             rspWarn := s.warn
             phase := .idle
             rspValid := true
             chReq := none
             chPending := none
             chIn := s.chIn.tail
             trace := s.trace ++ [.rd8 (s.cfg.calBase + 23#8) (.byte b), .rsp ⟨.ok, s.warn, s.readingPorts⟩] })))

/-! ### The micro-operations of READ and DETACH -/

/-- 42 R172, R174: one raw byte; a transport error ends the READ at once and leaves the outputs, `STATE` and `CAL`. -/
def Obligations.RawReadOutcomes : Prop :=
  decode (.uop 9#4) = .ok .rRawRd ∧
  (∀ s : State, s.channelAnswer = none →
    exec .rRawRd s = .next (s.awaitChannel ((0#1 ++ rawAddr s.cfg s.rawIdx) ++ 0x00#8))) ∧
  (∀ s t : State, s.lifecycle = .ready → exec .read s = .next t → t.rawIdx = 0) ∧
  (∀ (s : State) (w : BitVec 9), s.channelAnswer = some w →
     (readAnswer w = .err →
       exec .rRawRd s = .next
         { s with
           rspStatus := .transportError
           rspWarn := s.warn
           phase := .idle
           rspValid := true
           chReq := none
           chPending := none
           chIn := s.chIn.tail
           trace := s.trace ++
             [.rd8 (rawAddr s.cfg s.rawIdx) .err, .rsp ⟨.transportError, s.warn, s.readingPorts⟩] }) ∧
     (∀ b : Byte, readAnswer w = .byte b →
       (∀ h : s.rawIdx.val < 5,
         exec .rRawRd s = .next
           { s with
             rawb := s.rawb.set s.rawIdx.val b (by omega)
             rawIdx := ⟨s.rawIdx.val + 1, by omega⟩
             chReq := none
             chPending := none
             chIn := s.chIn.tail
             trace := s.trace ++ [.rd8 (rawAddr s.cfg s.rawIdx) (.byte b)] }) ∧
       (s.rawIdx.val = 5 →
         exec .rRawRd s = .next
           { s with
             rawb := s.rawb.set 5 b
             phase := .rCompT
             chReq := none
             chPending := none
             chIn := s.chIn.tail
             trace := s.trace ++ [.rd8 (rawAddr s.cfg 5) (.byte b)] })))

/-- 42 R176: the sleep write; whatever the channel answers, `STATE` becomes `Unattached` and the status is `OK`. -/
def Obligations.SleepWriteIsBestEffort : Prop :=
  decode (.uop 12#4) = .ok .dSleepWr ∧
  (∀ s : State, s.channelAnswer = none →
    exec .dSleepWr s = .next (s.awaitChannel ((1#1 ++ s.cfg.regCtrlMeas) ++ s.cfg.sleepValue))) ∧
  (∀ (s : State) (w : BitVec 9), s.channelAnswer = some w →
     exec .dSleepWr s = .next
       { s with
         warn := if writeAnswer w = .err then s.warn ||| 0b01#2 else s.warn
         lifecycle := .unattached
         calValid := false
         rspStatus := .ok
         rspWarn := if writeAnswer w = .err then s.warn ||| 0b01#2 else s.warn
         phase := .idle
         rspValid := true
         chReq := none
         chPending := none
         chIn := s.chIn.tail
         trace := s.trace ++
           [.wr8 s.cfg.regCtrlMeas s.cfg.sleepValue (writeAnswer w),
            .rsp ⟨.ok, if writeAnswer w = .err then s.warn ||| 0b01#2 else s.warn, s.readingPorts⟩] })

/-- 43 R200: the temperature micro-operation, in both read orders (42 R171). -/
def Obligations.TemperatureStepResult : Prop :=
  decode (.uop 10#4) = .ok .rCompT ∧
  (∀ s : State,
     exec .rCompT s = .next
       { s with
         rawT := rawTemp s.cfg.readOrder s.rawb
         tFine := (compT (zextRaw (rawTemp s.cfg.readOrder s.rawb)) (zextCal s.cal[0]) (sextCal s.cal[1]) (sextCal s.cal[2])).1
         tempNew := (compT (zextRaw (rawTemp s.cfg.readOrder s.rawb)) (zextCal s.cal[0]) (sextCal s.cal[1]) (sextCal s.cal[2])).2
         phase := .rCompP })

/-- 43 R210, R218: the pressure micro-operation, its published reading and its status. -/
def Obligations.PressureStepResult : Prop :=
  decode (.uop 11#4) = .ok .rCompP ∧
  (∀ (s : State) (p : S64) (degenerate : Bool),
     compP (zextRaw (rawPress s.cfg.readOrder s.rawb)) s.tFine (zextCal s.cal[3]) (sextCal s.cal[4]) (sextCal s.cal[5])
       (sextCal s.cal[6]) (sextCal s.cal[7]) (sextCal s.cal[8]) (sextCal s.cal[9]) (sextCal s.cal[10])
       (sextCal s.cal[11]) = (p, degenerate) →
     exec .rCompP s = .next
       { s with
         rawP := rawPress s.cfg.readOrder s.rawb
         tempOut := s.tempNew
         pressX256Out := p
         pressPaOut := sdiv64 p 256#64
         outValid := true
         rspStatus := if degenerate then .degeneratePressure else .ok
         rspWarn := s.warn
         phase := .idle
         rspValid := true
         trace := s.trace ++
           [.rsp ⟨if degenerate then .degeneratePressure else .ok, s.warn,
                  some ⟨s.tempNew, p, sdiv64 p 256#64⟩⟩] })

/-! ### Transactions and delays by themselves -/

/-- 20_memory R63, R64, R75: one transaction or delay is answered once, recorded once, and changes no register. -/
def Obligations.TransactionsAndDelaysByThemselves : Prop :=
  (∀ (s : State) (w : BitVec 9) (addr : Addr), s.channelAnswer = some w →
    exec (.rd8 addr) s = .next
      { s with chReq := none, chPending := none, chIn := s.chIn.tail, trace := s.trace ++ [.rd8 addr (readAnswer w)] }) ∧
  (∀ (s : State) (w : BitVec 9) (addr : Addr) (v : Byte), s.channelAnswer = some w →
    exec (.wr8 addr v) s = .next
      { s with chReq := none, chPending := none, chIn := s.chIn.tail, trace := s.trace ++ [.wr8 addr v (writeAnswer w)] }) ∧
  (∀ (s : State) (ms : BitVec 8), s.timerDone = true →
    exec (.dly ms) s = .next { s with dlyReq := none, dlyIn := s.dlyIn.tail, trace := s.trace ++ [.dly ms] })

/-- 40 R133, 70_reset R264, 30_encoding R99: while the channel or the timer is silent a micro-operation stays where it is
and changes nothing but its request ports: its own word is on offer until the channel accepts it, then awaits its answer. -/
def Obligations.SilentAgentHoldsTheRequest : Prop :=
  (∀ (s : State) (q : BitVec 17),
    s.awaitChannel q =
      { s with
        chReq := if s.chTaken then none else some q
        chPending := if s.chTaken then some q else none
        chIn := s.chIn.tail }) ∧
  (∀ (s : State) (q : BitVec 17), s.rstNow = false → s.phaseRequest = some q → s.channelAnswer = none →
    step s = .next (s.beginStep.awaitChannel q)) ∧
  (∀ (s : State) (ms : BitVec 8), s.rstNow = false → s.phaseDelay = some ms → s.timerDone = false →
    step s = .next
      { s with
        rst := s.rst.tail, rspValid := false, freeCnt := s.freeCnt + 1, dlyReq := some ms, dlyIn := s.dlyIn.tail }) ∧
  (∀ (s : State) (addr : Addr), s.channelAnswer = none →
    exec (.rd8 addr) s = .next (s.awaitChannel ((0#1 ++ addr) ++ 0x00#8))) ∧
  (∀ (s : State) (addr : Addr) (v : Byte), s.channelAnswer = none →
    exec (.wr8 addr v) s = .next (s.awaitChannel ((1#1 ++ addr) ++ v))) ∧
  (∀ (s : State) (ms : BitVec 8), s.timerDone = false →
    exec (.dly ms) s = .next { s with dlyReq := some ms, dlyIn := s.dlyIn.tail })

/-! ### The engine -/

/-- 43 R190: `wrap64(z)` is the unique `s64` congruent to `z` modulo 2^64. -/
def Obligations.WrapIsTheUniqueCongruentValue : Prop :=
  ∀ z : Int,
    (-(2 ^ 63) ≤ (wrap64 z).toInt ∧ (wrap64 z).toInt ≤ 2 ^ 63 - 1) ∧
    (∃ k : Int, z - (wrap64 z).toInt = k * 2 ^ 64) ∧
    (∀ a : S64, (∃ k : Int, z - a.toInt = k * 2 ^ 64) → a = wrap64 z)

/-- 43 R191, R192, R193: add, subtract, multiply and left shift are the machine's 64-bit operations, wrapping without a
flag. -/
def Obligations.RingOperationsWrap : Prop :=
  (∀ a b : S64, add64 a b = wrap64 (a.toInt + b.toInt) ∧ add64 a b = a + b) ∧
  (∀ a b : S64, sub64 a b = wrap64 (a.toInt - b.toInt) ∧ sub64 a b = a - b) ∧
  (∀ a b : S64, mul64 a b = wrap64 (a.toInt * b.toInt) ∧ mul64 a b = a * b) ∧
  (∀ (a : S64) (n : Nat), n ≤ 63 → shl64 a n = wrap64 (a.toInt * 2 ^ n) ∧ shl64 a n = a <<< n)

/-- 43 R194: `asr64` rounds toward minus infinity, never overflows, and is the shift that copies the sign bit. -/
def Obligations.RightShiftIsFloor : Prop :=
  ∀ (a : S64) (n : Nat), n ≤ 63 →
    2 ^ n * (asr64 a n).toInt ≤ a.toInt ∧ a.toInt < 2 ^ n * ((asr64 a n).toInt + 1) ∧
    asr64 a n = a.sshiftRight n

/-- 43 R195: `sdiv64` rounds toward zero in all four sign combinations; its one overflow case wraps. -/
def Obligations.DivisionTruncates : Prop :=
  ∀ a b : S64, b ≠ 0#64 →
    sdiv64 a b = wrap64 (a.toInt.sign * b.toInt.sign * (a.toInt.natAbs / b.toInt.natAbs : Nat)) ∧
    (a.toInt = -(2 ^ 63) ∧ b.toInt = -1 → (sdiv64 a b).toInt = -(2 ^ 63)) ∧
    (¬ (a.toInt = -(2 ^ 63) ∧ b.toInt = -1) →
      (sdiv64 a b).toInt = a.toInt.sign * b.toInt.sign * (a.toInt.natAbs / b.toInt.natAbs : Nat))

/-- 42 R173: the 20-bit sample of its three bytes; `x[3:0]` is ignored; the roles of `RAWB` with `T_THEN_P`. -/
def Obligations.RawSampleAssembly : Prop :=
  (∀ m l x : Byte, (raw m l x).toNat = m.toNat * 4096 + l.toNat * 16 + x.toNat / 16) ∧
  (∀ m l x y : Byte, x.toNat / 16 = y.toNat / 16 → raw m l x = raw m l y) ∧
  (∀ b : Vector Byte 6, rawTemp .tThenP b = raw b[0] b[1] b[2] ∧ rawPress .tThenP b = raw b[3] b[4] b[5]) ∧
  (∀ s : State, s.cfg.readOrder = .tThenP →
    ∃ t, exec .rCompT s = .next t ∧ t.rawT = raw s.rawb[0] s.rawb[1] s.rawb[2]) ∧
  (∀ s : State, s.cfg.readOrder = .tThenP →
    ∃ t, exec .rCompP s = .next t ∧ t.rawP = raw s.rawb[3] s.rawb[4] s.rawb[5])

/-- 42 R171: the order of the six reads, and the roles of `RAWB`, for both values of `READ_ORDER`. -/
def Obligations.RawAddressOrder : Prop :=
  (∀ c : Config, c.readOrder = .tThenP → [0, 1, 2, 3, 4, 5].map (rawAddr c) =
    [c.regTempMsb, c.regTempLsb, c.regTempXlsb, c.regPressMsb, c.regPressLsb, c.regPressXlsb]) ∧
  (∀ c : Config, c.readOrder = .pThenT → [0, 1, 2, 3, 4, 5].map (rawAddr c) =
    [c.regPressMsb, c.regPressLsb, c.regPressXlsb, c.regTempMsb, c.regTempLsb, c.regTempXlsb]) ∧
  (∀ b : Vector Byte 6, rawTemp .tThenP b = raw b[0] b[1] b[2] ∧ rawPress .tThenP b = raw b[3] b[4] b[5]) ∧
  (∀ b : Vector Byte 6, rawTemp .pThenT b = raw b[3] b[4] b[5] ∧ rawPress .pThenT b = raw b[0] b[1] b[2]) ∧
  Config.thisHardware.readOrder = .tThenP ∧
  [0, 1, 2, 3, 4, 5].map (rawAddr Config.thisHardware) = [0xFA#8, 0xFB#8, 0xFC#8, 0xF7#8, 0xF8#8, 0xF9#8]

/-- 43 R201, R211: the two formulas, written with the machine's own 64-bit operations: wrapping `+`, `-`, `*`, `<<<`, the shift
that copies the sign, and the signed division that truncates. -/
def Obligations.FormulasInMachineArithmetic : Prop :=
  (∀ rawT t1 t2 t3 : S64,
    let a := rawT.sshiftRight 3 - t1 <<< 1
    let tv1 := (a * t2).sshiftRight 11
    let d := rawT.sshiftRight 4 - t1
    let tv2 := ((d * d).sshiftRight 12 * t3).sshiftRight 14
    let tFine := tv1 + tv2
    compT rawT t1 t2 t3 = (tFine, (tFine * 5#64 + 128#64).sshiftRight 8)) ∧
  (∀ rawP tFine p1 p2 p3 p4 p5 p6 p7 p8 p9 : S64,
    let v1a := tFine - 128000#64
    let sq := v1a * v1a
    let v2 := sq * p6 + (v1a * p5) <<< 17 + p4 <<< 35
    let v1b := (sq * p3).sshiftRight 8 + (v1a * p2) <<< 12
    let v1c := ((140737488355328#64 + v1b) * p1).sshiftRight 33
    let p0 := 1048576#64 - rawP
    let num := (p0 <<< 31 - v2) * 3125#64
    let q := num.sdiv v1c
    let w1 := (p9 * q.sshiftRight 13 * q.sshiftRight 13).sshiftRight 25
    let w2 := (p8 * q).sshiftRight 19
    compP rawP tFine p1 p2 p3 p4 p5 p6 p7 p8 p9 =
      if v1c = 0#64 then (0#64, true) else ((q + w1 + w2).sshiftRight 8 + p7 <<< 4, false))

/-- 20_memory R67, 10_state R31, 43 R196: a calibration word is `(msb << 8) | lsb`; `T1`, `P1` enter unsigned, the other
ten signed, the raw counts unsigned. -/
def Obligations.OperandsKeepTheirSignedness : Prop :=
  (∀ msb lsb : Byte, (u16le msb lsb).toNat = msb.toNat * 256 + lsb.toNat) ∧
  (∀ w : CalWord, (zextCal w).toInt = w.toNat ∧ (sextCal w).toInt = w.toInt) ∧
  (∀ r : Raw, (zextRaw r).toInt = r.toNat) ∧
  (∀ (r : Raw) (cal : Vector CalWord 12),
    compTCal r cal = compT (zextRaw r) (zextCal cal[0]) (sextCal cal[1]) (sextCal cal[2])) ∧
  (∀ (r : Raw) (t : S64) (cal : Vector CalWord 12),
    compPCal r t cal = compP (zextRaw r) t (zextCal cal[3]) (sextCal cal[4]) (sextCal cal[5]) (sextCal cal[6]) (sextCal cal[7])
      (sextCal cal[8]) (sextCal cal[9]) (sextCal cal[10]) (sextCal cal[11]))

/-- 43 R203, R204: over the whole input range the temperature path never leaves 64 bits: its result is the one of the
mathematical integers, and every intermediate keeps the bound the rule gives. -/
def Obligations.TemperaturePathIsExact : Prop :=
  ∀ (r : Raw) (cal : Vector CalWord 12),
    let t1 : Int := cal[0].toNat
    let t2 : Int := cal[1].toInt
    let t3 : Int := cal[2].toInt
    let a : Int := asrZ r.toNat 3 - t1 * 2
    let tv1 : Int := asrZ (a * t2) 11
    let d : Int := asrZ r.toNat 4 - t1
    let tv2 : Int := asrZ (asrZ (d * d) 12 * t3) 14
    let tFine : Int := tv1 + tv2
    let t : Int := asrZ (tFine * 5 + 128) 8
    (compTCal r cal).1.toInt = tFine ∧ (compTCal r cal).2.toInt = t ∧ (compTCalZ r cal).1 = (tFine, t) ∧
    (-131070 ≤ a ∧ a ≤ 131071) ∧ (-4294934528 ≤ a * t2 ∧ a * t2 ≤ 4294934528) ∧
    (-2097136 ≤ tv1 ∧ tv1 ≤ 2097120) ∧ (-65535 ≤ d ∧ d ≤ 65535) ∧ (0 ≤ d * d ∧ d * d ≤ 4294836225) ∧
    (0 ≤ asrZ (d * d) 12 ∧ asrZ (d * d) 12 ≤ 1048544) ∧
    (-34358689792 ≤ asrZ (d * d) 12 * t3 ∧ asrZ (d * d) 12 * t3 ≤ 34358689792) ∧
    (-2097088 ≤ tv2 ∧ tv2 ≤ 2097024) ∧ (-4194224 ≤ tFine ∧ tFine ≤ 4194144) ∧
    (-20970992 ≤ tFine * 5 + 128 ∧ tFine * 5 + 128 ≤ 20970848) ∧ (-81918 ≤ t ∧ t ≤ 81917)

/-- 43 R197: under `NoOverflow` both results are the ones of the mathematical integers; the predicate fails for some
calibration words (R214, V12). -/
def Obligations.EngineIsExactUnderNoOverflow : Prop :=
  (∀ (rT rP : Raw) (c : Vector CalWord 12), noOverflow rT rP c = true →
    let z := compTCalZ rT c
    let p := compPCalZ rP z.1.1 c
    (compTCal rT c).1.toInt = z.1.1 ∧ (compTCal rT c).2.toInt = z.1.2 ∧
    (compPCal rP (compTCal rT c).1 c).1.toInt = p.1.1 ∧ (compPCal rP (compTCal rT c).1 c).2 = p.1.2) ∧
  (∀ (rT : Raw) (c : Vector CalWord 12), (compTCalZ rT c).2.all inS64 = true) ∧
  (∃ (rT rP : Raw) (c : Vector CalWord 12), noOverflow rT rP c = false)

/-- 43 R212: the degenerate case is exactly a product below 2^33 and not negative, in particular `P1 = 0`; the pressure is
then 0 in both outputs, the temperature is published and the status is `DegeneratePressure`. -/
def Obligations.DegeneratePressureExactly : Prop :=
  (∀ (r : Raw) (t : S64) (cal : Vector CalWord 12),
    let v1a := sub64 t 128000#64
    let v1b := add64 (asr64 (mul64 (mul64 v1a v1a) (sextCal cal[5])) 8) (shl64 (mul64 v1a (sextCal cal[4])) 12)
    let m := (mul64 (add64 (wrap64 (2 ^ 47)) v1b) (zextCal cal[3])).toInt
    ((compPCal r t cal).2 = true ↔ 0 ≤ m ∧ m < 2 ^ 33) ∧
    ((compPCal r t cal).2 = true → (compPCal r t cal).1 = 0#64) ∧
    (cal[3] = 0#16 → (compPCal r t cal).2 = true)) ∧
  (∀ s : State, (compPCal (rawPress s.cfg.readOrder s.rawb) s.tFine s.cal).2 = true →
    ∃ t, exec .rCompP s = .next t ∧ t.tempOut = s.tempNew ∧ t.pressX256Out = 0#64 ∧ t.pressPaOut = 0#64 ∧
      t.outValid = true ∧ t.rspStatus = .degeneratePressure)

/-! ### Rules about the whole machine -/

/-- 60_exceptions (no traps), 20_memory R71: no instruction stops the machine, on any operand and in any state. In the states
no run reaches this rests on the model's choices of log entries 4 and 5. -/
def Obligations.NoInstructionStops : Prop :=
  (∀ (i : Instr) (s : State), ∃ t, exec i s = .next t) ∧ (∀ s : State, Invariant s → ∃ t, step s = .next t)

/-- 10_state R32: only `A_CAL_RD` writes the store, and only the two engine operations read it. -/
def Obligations.StoreHasOneWriterAndOneReader : Prop :=
  (∀ (i : Instr) (s t : State), exec i s = .next t → t.cal ≠ s.cal → i = .aCalRd) ∧
  (∀ (i : Instr) (s t : State) (c : Vector CalWord 12), i ≠ .aCalRd → i ≠ .rCompT → i ≠ .rCompP → exec i s = .next t →
    exec i { s with cal := c } = .next { t with cal := c }) ∧
  (∀ (s t : State) (c : Vector CalWord 12), exec .aCalRd s = .next t →
    ∃ c' : Vector CalWord 12, exec .aCalRd { s with cal := c } = .next { t with cal := c' })

/-- 10_state R42: the outputs and `OUT_VALID` are written only at the end of a `READ`, with status `OK` or
`DegeneratePressure`, and `OUT_VALID` stays 1 until reset. -/
def Obligations.OutputsChangeOnlyAtTheEndOfARead : Prop :=
  (∀ s t : State, s.rstNow = false → step s = .next t →
     (s.phase ≠ .rCompP →
       t.tempOut = s.tempOut ∧ t.pressX256Out = s.pressX256Out ∧ t.pressPaOut = s.pressPaOut ∧ t.outValid = s.outValid) ∧
     (s.phase = .rCompP →
       t.outValid = true ∧ (t.rspStatus = .ok ∨ t.rspStatus = .degeneratePressure) ∧ t.tempOut = s.tempNew) ∧
     (s.outValid = true → t.outValid = true)) ∧
  (∀ s : State, s.rstNow = true → ∃ t, step s = .next t ∧ t.outValid = false)

/-- 00_scope R7, 20_memory R74: a step issues at most one transaction or delay; it appends to the trace, and a step that
waits appends nothing. -/
def Obligations.OneRequestPerStep : Prop :=
  ∀ s t : State, Invariant s → s.rstNow = false → step s = .next t →
    ∃ evs : List Event, t.trace = s.trace ++ evs ∧ (evs.filter Event.isRequest).length ≤ 1 ∧ evs.length ≤ 2 ∧
      (s.waiting = true → evs = []) ∧ (s.waiting = false → t.chReq = none ∧ t.chPending = none ∧ t.dlyReq = none)

/-- 00_scope R9, 10_state R20: the parameters are constants; no step changes them. -/
def Obligations.ParametersNeverChange : Prop :=
  ∀ s t : State, step s = .next t → t.cfg = s.cfg

/-- The invariant holds right after reset. -/
def Obligations.ResetMeetsTheInvariant : Prop := Invariant State.reset

/-- 10_state R22, R25, R33, R41, R45, 20_memory R74, 43 R215: every step, reset among them, keeps the invariant. -/
def Obligations.StepKeepsTheInvariant : Prop :=
  ∀ s t : State, Invariant s → step s = .next t → Invariant t

/-- 40 R132: the phase transitions, complete. -/
def Obligations.PhaseTransitionsAreComplete : Prop :=
  ∀ s t : State, Invariant s → s.rstNow = false → step s = .next t →
    t.phase = if s.waiting then s.phase else s.phaseTable

/-- 40 R131: the lifecycle transitions, complete; there is no edge out of `Ready` to `Failed`. -/
def Obligations.LifecycleTransitionsAreComplete : Prop :=
  (∀ s t : State, Invariant s → s.rstNow = false → step s = .next t →
    t.lifecycle = if s.waiting then s.lifecycle else s.lifecycleTable) ∧
  (∀ s t : State, Invariant s → s.lifecycle = .ready → step s = .next t → t.lifecycle ≠ .failed) ∧
  (∀ s : State, s.rstNow = true → ∃ t, step s = .next t ∧ t.lifecycle = .unattached)

/-- 40 R133: every micro-operation that finishes brings its command nearer to its end. -/
def Obligations.EveryFinishedStepShortensTheCommand : Prop :=
  ∀ s t : State, Invariant s → s.rstNow = false → s.phase ≠ .idle → step s = .next t →
    (s.waiting = false → t.remaining < s.remaining) ∧ (s.waiting = true → t.remaining = s.remaining)

/-- 40 R133: with a channel and a timer that keep their duty every command finishes, `ATTACH` after at most
`5 + 2*POLL_MAX + 24` micro-operations, `READ` after at most 8, `DETACH` after at most 1, `NOP` after none; with a silent
one the block waits in its micro-operation. -/
def Obligations.EveryCommandFinishes : Prop :=
  (∀ s : State, Invariant s → s.prompt s.remaining →
    ∃ (n : Nat) (t : State), n ≤ s.remaining ∧ Host.Core.run Sys2Proof.core n s = .next t ∧ t.phase = .idle) ∧
  (∀ s t : State, exec .nop s = .next t → t.remaining = 0) ∧
  (∀ s t : State, exec .attach s = .next t → t.remaining ≤ 5 + 2 * s.cfg.pollMax.toNat + 24) ∧
  (∀ s t : State, exec .read s = .next t → t.remaining ≤ 8) ∧
  (∀ s t : State, exec .detach s = .next t → t.remaining ≤ 1) ∧
  5 + 2 * Config.thisHardware.pollMax.toNat + 24 = 49 ∧
  (∀ s t : State, Invariant s → s.rstNow = false → s.waiting = true → step s = .next t → t.phase = s.phase)

/-! ### Whole commands -/

/-- 42 R175: the whole `READ` as one function of its six bytes. -/
def Obligations.ReadAsOneFunctionOfSixBytes : Prop :=
  ∀ (s : State) (b : Vector Byte 6) (cmds : List (Option (BitVec 2))) (rest : List ChannelInput),
    s.phase = .idle → s.lifecycle = .ready → s.chReq = none → s.chPending = none → s.dlyReq = none →
    s.rst = [] →
    s.cmdIn = some 0b10#2 :: cmds → s.chIn = b.toList.map ChannelInput.byte ++ rest →
    let rT := rawTemp s.cfg.readOrder b
    let ct := compTCal rT s.cal
    let cp := compPCal (rawPress s.cfg.readOrder b) ct.1 s.cal
    let st : Status := if cp.2 then .degeneratePressure else .ok
    ∃ t : State, Host.Core.run Sys2Proof.core 9 s = .next t ∧
      t.tempOut = ct.2 ∧ t.pressX256Out = cp.1 ∧ t.pressPaOut = sdiv64 cp.1 256#64 ∧ t.outValid = true ∧
      t.rspStatus = st ∧ t.rspWarn = 0#2 ∧ t.rspValid = true ∧ t.phase = .idle ∧
      t.lifecycle = .ready ∧ t.cal = s.cal ∧ t.calValid = s.calValid ∧ t.lastErr = s.lastErr ∧
      t.chIn = rest ∧ t.cmdIn = cmds ∧
      t.trace = s.trace ++
        [.rd8 (rawAddr s.cfg 0) (.byte b[0]), .rd8 (rawAddr s.cfg 1) (.byte b[1]), .rd8 (rawAddr s.cfg 2) (.byte b[2]),
         .rd8 (rawAddr s.cfg 3) (.byte b[3]), .rd8 (rawAddr s.cfg 4) (.byte b[4]), .rd8 (rawAddr s.cfg 5) (.byte b[5]),
         .rsp ⟨st, 0#2, some ⟨ct.2, cp.1, sdiv64 cp.1 256#64⟩⟩]

/-- 42 R174: a `READ` whose first `k` bytes come and whose next read fails: it answers `TransportError` at once, the outputs,
`STATE`, the store and `LAST_ERR` stay, nothing further is issued, and the next `READ` starts again. -/
def Obligations.FailedReadPublishesNothing : Prop :=
  ∀ (s : State) (bs : List Byte) (k : Fin 6) (e : BitVec 9) (cmds : List (Option (BitVec 2)))
    (rest : List ChannelInput),
    s.phase = .idle → s.lifecycle = .ready → s.chReq = none → s.chPending = none → s.dlyReq = none →
    s.rst = [] →
    s.cmdIn = some 0b10#2 :: cmds → bs.length = k.val → 256 ≤ e.toNat →
    s.chIn = bs.map ChannelInput.byte ++ .answer e :: rest →
    ∃ t : State, Host.Core.run Sys2Proof.core (k.val + 2) s = .next t ∧
      t.phase = .idle ∧ t.lifecycle = .ready ∧ t.rspStatus = .transportError ∧ t.rspWarn = 0#2 ∧ t.rspValid = true ∧
      t.tempOut = s.tempOut ∧ t.pressX256Out = s.pressX256Out ∧ t.pressPaOut = s.pressPaOut ∧ t.outValid = s.outValid ∧
      t.cal = s.cal ∧ t.calValid = s.calValid ∧ t.lastErr = s.lastErr ∧
      t.rawT = s.rawT ∧ t.rawP = s.rawP ∧ t.tFine = s.tFine ∧ t.tempNew = s.tempNew ∧
      t.chIn = rest ∧ t.cmdIn = cmds ∧ t.chReq = none ∧ t.chPending = none ∧
      t.trace = s.trace ++
        (List.finRange 6).filterMap (fun i => bs[i.val]?.map fun b => Event.rd8 (rawAddr s.cfg i) (.byte b)) ++
        [.rd8 (rawAddr s.cfg k) .err, .rsp ⟨.transportError, 0#2, s.readingPorts⟩] ∧
      ∃ u : State, exec .read t = .next u ∧ u.rawIdx = 0 ∧ u.phase = .rRawRd

/-- 41 R149, R151 step 7: twenty-four good answers load the store, low byte first, and make the block `Ready`. -/
def Obligations.CalibrationLoadFillsTheStore : Prop :=
  ∀ (s : State) (b : Vector Byte 24) (rest : List ChannelInput),
    s.phase = .aCalRd → s.calIdx = 0 → s.rst = [] → s.chIn = b.toList.map ChannelInput.byte ++ rest →
    ∃ t : State, Host.Core.run Sys2Proof.core 24 s = .next t ∧
      (∀ k : Fin 12, t.cal[k.val]'k.isLt = (b[2 * k.val + 1]'(by omega)) ++ (b[2 * k.val]'(by omega))) ∧
      t.calValid = true ∧ t.lifecycle = .ready ∧ t.phase = .idle ∧ t.rspStatus = .ok ∧ t.rspWarn = s.warn ∧
      t.rspValid = true ∧ t.chIn = rest ∧
      t.trace = s.trace ++
        (List.finRange 24).map (fun i => Event.rd8 (s.cfg.calBase + BitVec.ofNat 8 i.val) (.byte (b[i.val]'i.isLt))) ++
        [.rsp ⟨.ok, s.warn, s.readingPorts⟩]

/-- 41 R146, R145: a status register that never clears: after `POLL_MAX` reads and `POLL_MAX` delays the block goes on to
the configuration write, `STATE` stays `Reset`, and only the warning is left. -/
def Obligations.ExhaustedPollProceedsWithAWarning : Prop :=
  ∀ (s : State) (b : Byte) (rest : List ChannelInput) (done : List Bool),
    Invariant s → s.phase = .aPollRd → s.pollCnt = 0#4 → s.rst = [] → b &&& s.cfg.imUpdateMask ≠ 0#8 →
    s.chIn = List.replicate s.cfg.pollMax.toNat (.byte b) ++ rest →
    s.dlyIn = List.replicate s.cfg.pollMax.toNat true ++ done →
    ∃ t : State, Host.Core.run Sys2Proof.core (2 * s.cfg.pollMax.toNat) s = .next t ∧
      t.phase = .aCfgCtrlWr ∧ t.lifecycle = .reset ∧ t.warn = s.warn ||| 0b10#2 ∧ t.pollCnt = s.cfg.pollMax ∧
      t.rspStatus = s.rspStatus ∧ t.lastErr = s.lastErr ∧ t.chIn = rest ∧ t.dlyIn = done ∧
      t.trace = s.trace ++
        (List.replicate s.cfg.pollMax.toNat [Event.rd8 s.cfg.regStatus (.byte b), .dly s.cfg.pollDelayMs]).flatten

/-- 40 R124, 41 R140, R151: the whole `ATTACH` with good answers and a clear status bit at the first poll: twenty-nine
transactions and one delay, in the one order the rules give. -/
def Obligations.AttachWithGoodAnswersReachesReady : Prop :=
  ∀ (s : State) (b : Vector Byte 24) (st : Byte) (cmds : List (Option (BitVec 2))) (rest : List ChannelInput)
    (done : List Bool),
    s.phase = .idle → s.lifecycle = .unattached → s.chReq = none → s.chPending = none → s.dlyReq = none →
    s.rst = [] →
    st &&& s.cfg.imUpdateMask = 0#8 → s.cmdIn = some 0b01#2 :: cmds → s.dlyIn = true :: done →
    s.chIn = [.byte s.cfg.chipId, .answer 0#9, .byte st, .answer 0#9, .answer 0#9] ++
      b.toList.map ChannelInput.byte ++ rest →
    ∃ t : State, Host.Core.run Sys2Proof.core 31 s = .next t ∧
      t.lifecycle = .ready ∧ t.calValid = true ∧ t.phase = .idle ∧ t.rspStatus = .ok ∧ t.rspWarn = 0#2 ∧
      t.lastErr = s.lastErr ∧ t.outValid = s.outValid ∧ t.tempOut = s.tempOut ∧ t.pressX256Out = s.pressX256Out ∧
      t.pressPaOut = s.pressPaOut ∧ t.rawb = s.rawb ∧ t.rawT = s.rawT ∧ t.rawP = s.rawP ∧ t.tFine = s.tFine ∧
      t.tempNew = s.tempNew ∧
      (∀ k : Fin 12, t.cal[k.val]'k.isLt = (b[2 * k.val + 1]'(by omega)) ++ (b[2 * k.val]'(by omega))) ∧
      t.trace = s.trace ++
        [.rd8 s.cfg.regId (.byte s.cfg.chipId), .wr8 s.cfg.regReset s.cfg.resetCmd .ok, .dly s.cfg.resetDelayMs,
         .rd8 s.cfg.regStatus (.byte st), .wr8 s.cfg.regCtrlMeas s.cfg.ctrlMeasValue .ok,
         .wr8 s.cfg.regConfig s.cfg.configValue .ok] ++
        (List.finRange 24).map (fun i => Event.rd8 (s.cfg.calBase + BitVec.ofNat 8 i.val) (.byte (b[i.val]'i.isLt))) ++
        [.rsp ⟨.ok, 0#2, s.readingPorts⟩]

/-! ### The end of a run -/

/-- 70_reset R265: a run that is over stays over and shows the same end state for ever; a state with `PHASE != IDLE`, or with
a transaction or a delay outstanding, or with a command still offered, is no end state; a stuck sequencer stays in its
micro-operation for ever, its run never over. -/
def Obligations.FinishedRunsIdleForEver : Prop :=
  (∀ (s : State) (n k : Nat), s.runOver n = true → (∀ r ∈ s.rst, r = false) →
    ∃ t : State, Host.Core.run Sys2Proof.core k s = .next t ∧ t.runOver n = true ∧ t.endState = s.endState) ∧
  (∀ (s : State) (n : Nat),
    s.phase ≠ .idle ∨ s.chReq ≠ none ∨ s.chPending ≠ none ∨ s.dlyReq ≠ none ∨ s.commandOffered ≠ none ∨ s.responses ≠ n →
    s.runOver n = false) ∧
  (∀ (s : State) (k : Nat), Invariant s → s.stuck = true → (∀ r ∈ s.rst, r = false) →
    ∃ t : State, Host.Core.run Sys2Proof.core k s = .next t ∧ t.phase = s.phase ∧ t.stuck = true ∧
      t.endState = s.endState ∧ ∀ n, t.runOver n = false) ∧
  (∀ s : State, s.waiting = (s.idling || s.held)) ∧ (∀ s : State, Invariant s → s.stuck = true → s.held = true)

/-- 70_reset R265 with 40 R122, R133: every script of commands, offered one after another to an idle block whose agents keep
their duty, is run to its end: each command is accepted and answered exactly once, within the stated number of steps. -/
def Obligations.EveryScriptRunsToItsEnd : Prop :=
  ∀ (s : State) (cmds : List (BitVec 2)),
    Invariant s → s.phase = .idle → s.cmdIn = cmds.map some →
    s.prompt (cmds.length * (29 + 2 * s.cfg.pollMax.toNat)) →
    ∃ (k : Nat) (t : State), k ≤ cmds.length * (30 + 2 * s.cfg.pollMax.toNat) ∧
      Host.Core.run Sys2Proof.core k s = .next t ∧ t.runOver (s.responses + cmds.length) = true
end

