-- ==== Sys2Proof/Laws/Arith.lean ====
section
/-! SUPPORT. Small lemmas about `wrap64`, the operand conversions and the request words. -/

namespace Sys2Proof.Machine

@[simp] theorem wrap64_toInt (a : S64) : wrap64 a.toInt = a := by simp [wrap64]

/-- On the range of an `s64` narrowing changes nothing. -/
theorem toInt_wrap64_of_inS64 {z : Int} (h : inS64 z = true) : (wrap64 z).toInt = z := by
  simp only [inS64, Bool.and_eq_true, decide_eq_true_eq] at h
  rw [wrap64, BitVec.toInt_ofInt]
  apply Int.bmod_eq_of_le <;> omega

theorem zextRaw_toInt (r : Raw) : (zextRaw r).toInt = r.toNat := by
  have h := r.isLt
  rw [zextRaw, BitVec.toInt_eq_toNat_of_lt]
  · simp [BitVec.toNat_setWidth]; omega
  · simp [BitVec.toNat_setWidth]; omega

theorem chIsWrite_rd8Word (a : Addr) : chIsWrite (rd8Word a) = false := by revert a; decide

theorem chIsWrite_wr8Word (a : Addr) (v : Byte) : chIsWrite (wr8Word a v) = true := by
  show BitVec.getLsbD ((1#1 ++ a) ++ v) 16 = true
  rw [BitVec.getLsbD_append, BitVec.getLsbD_append]
  simp

end Sys2Proof.Machine
end

