-- ==== Sys2Proof/Laws/State.lean ====
section
/-! SUPPORT. One lemma for each field of State after each update, true by rfl (what an update does not name, it keeps). -/

namespace Sys2Proof.Machine

/-! ### State.record -/

@[simp] theorem State.record_cfg (e : Event) (s : State) : (s.record e).cfg = s.cfg := rfl
@[simp] theorem State.record_lifecycle (e : Event) (s : State) : (s.record e).lifecycle = s.lifecycle := rfl
@[simp] theorem State.record_phase (e : Event) (s : State) : (s.record e).phase = s.phase := rfl
@[simp] theorem State.record_pollCnt (e : Event) (s : State) : (s.record e).pollCnt = s.pollCnt := rfl
@[simp] theorem State.record_calIdx (e : Event) (s : State) : (s.record e).calIdx = s.calIdx := rfl
@[simp] theorem State.record_rawIdx (e : Event) (s : State) : (s.record e).rawIdx = s.rawIdx := rfl
@[simp] theorem State.record_byteLo (e : Event) (s : State) : (s.record e).byteLo = s.byteLo := rfl
@[simp] theorem State.record_cal (e : Event) (s : State) : (s.record e).cal = s.cal := rfl
@[simp] theorem State.record_calValid (e : Event) (s : State) : (s.record e).calValid = s.calValid := rfl
@[simp] theorem State.record_rawb (e : Event) (s : State) : (s.record e).rawb = s.rawb := rfl
@[simp] theorem State.record_rawT (e : Event) (s : State) : (s.record e).rawT = s.rawT := rfl
@[simp] theorem State.record_rawP (e : Event) (s : State) : (s.record e).rawP = s.rawP := rfl
@[simp] theorem State.record_tFine (e : Event) (s : State) : (s.record e).tFine = s.tFine := rfl
@[simp] theorem State.record_tempNew (e : Event) (s : State) : (s.record e).tempNew = s.tempNew := rfl
@[simp] theorem State.record_tempOut (e : Event) (s : State) : (s.record e).tempOut = s.tempOut := rfl
@[simp] theorem State.record_pressX256Out (e : Event) (s : State) : (s.record e).pressX256Out = s.pressX256Out := rfl
@[simp] theorem State.record_pressPaOut (e : Event) (s : State) : (s.record e).pressPaOut = s.pressPaOut := rfl
@[simp] theorem State.record_outValid (e : Event) (s : State) : (s.record e).outValid = s.outValid := rfl
@[simp] theorem State.record_rspStatus (e : Event) (s : State) : (s.record e).rspStatus = s.rspStatus := rfl
@[simp] theorem State.record_rspWarn (e : Event) (s : State) : (s.record e).rspWarn = s.rspWarn := rfl
@[simp] theorem State.record_warn (e : Event) (s : State) : (s.record e).warn = s.warn := rfl
@[simp] theorem State.record_lastErr (e : Event) (s : State) : (s.record e).lastErr = s.lastErr := rfl
@[simp] theorem State.record_rspValid (e : Event) (s : State) : (s.record e).rspValid = s.rspValid := rfl
@[simp] theorem State.record_chReq (e : Event) (s : State) : (s.record e).chReq = s.chReq := rfl
@[simp] theorem State.record_chPending (e : Event) (s : State) : (s.record e).chPending = s.chPending := rfl
@[simp] theorem State.record_dlyReq (e : Event) (s : State) : (s.record e).dlyReq = s.dlyReq := rfl
@[simp] theorem State.record_rst (e : Event) (s : State) : (s.record e).rst = s.rst := rfl
@[simp] theorem State.record_cmdIn (e : Event) (s : State) : (s.record e).cmdIn = s.cmdIn := rfl
@[simp] theorem State.record_chIn (e : Event) (s : State) : (s.record e).chIn = s.chIn := rfl
@[simp] theorem State.record_dlyIn (e : Event) (s : State) : (s.record e).dlyIn = s.dlyIn := rfl
@[simp] theorem State.record_trace (e : Event) (s : State) : (s.record e).trace = s.trace ++ [e] := rfl
@[simp] theorem State.record_freeCnt (e : Event) (s : State) : (s.record e).freeCnt = s.freeCnt := rfl

/-! ### State.awaitChannel -/

@[simp] theorem State.awaitChannel_cfg (req : BitVec 17) (s : State) : (s.awaitChannel req).cfg = s.cfg := rfl
@[simp] theorem State.awaitChannel_lifecycle (req : BitVec 17) (s : State) : (s.awaitChannel req).lifecycle = s.lifecycle := rfl
@[simp] theorem State.awaitChannel_phase (req : BitVec 17) (s : State) : (s.awaitChannel req).phase = s.phase := rfl
@[simp] theorem State.awaitChannel_pollCnt (req : BitVec 17) (s : State) : (s.awaitChannel req).pollCnt = s.pollCnt := rfl
@[simp] theorem State.awaitChannel_calIdx (req : BitVec 17) (s : State) : (s.awaitChannel req).calIdx = s.calIdx := rfl
@[simp] theorem State.awaitChannel_rawIdx (req : BitVec 17) (s : State) : (s.awaitChannel req).rawIdx = s.rawIdx := rfl
@[simp] theorem State.awaitChannel_byteLo (req : BitVec 17) (s : State) : (s.awaitChannel req).byteLo = s.byteLo := rfl
@[simp] theorem State.awaitChannel_cal (req : BitVec 17) (s : State) : (s.awaitChannel req).cal = s.cal := rfl
@[simp] theorem State.awaitChannel_calValid (req : BitVec 17) (s : State) : (s.awaitChannel req).calValid = s.calValid := rfl
@[simp] theorem State.awaitChannel_rawb (req : BitVec 17) (s : State) : (s.awaitChannel req).rawb = s.rawb := rfl
@[simp] theorem State.awaitChannel_rawT (req : BitVec 17) (s : State) : (s.awaitChannel req).rawT = s.rawT := rfl
@[simp] theorem State.awaitChannel_rawP (req : BitVec 17) (s : State) : (s.awaitChannel req).rawP = s.rawP := rfl
@[simp] theorem State.awaitChannel_tFine (req : BitVec 17) (s : State) : (s.awaitChannel req).tFine = s.tFine := rfl
@[simp] theorem State.awaitChannel_tempNew (req : BitVec 17) (s : State) : (s.awaitChannel req).tempNew = s.tempNew := rfl
@[simp] theorem State.awaitChannel_tempOut (req : BitVec 17) (s : State) : (s.awaitChannel req).tempOut = s.tempOut := rfl
@[simp] theorem State.awaitChannel_pressX256Out (req : BitVec 17) (s : State) : (s.awaitChannel req).pressX256Out = s.pressX256Out := rfl
@[simp] theorem State.awaitChannel_pressPaOut (req : BitVec 17) (s : State) : (s.awaitChannel req).pressPaOut = s.pressPaOut := rfl
@[simp] theorem State.awaitChannel_outValid (req : BitVec 17) (s : State) : (s.awaitChannel req).outValid = s.outValid := rfl
@[simp] theorem State.awaitChannel_rspStatus (req : BitVec 17) (s : State) : (s.awaitChannel req).rspStatus = s.rspStatus := rfl
@[simp] theorem State.awaitChannel_rspWarn (req : BitVec 17) (s : State) : (s.awaitChannel req).rspWarn = s.rspWarn := rfl
@[simp] theorem State.awaitChannel_warn (req : BitVec 17) (s : State) : (s.awaitChannel req).warn = s.warn := rfl
@[simp] theorem State.awaitChannel_lastErr (req : BitVec 17) (s : State) : (s.awaitChannel req).lastErr = s.lastErr := rfl
@[simp] theorem State.awaitChannel_rspValid (req : BitVec 17) (s : State) : (s.awaitChannel req).rspValid = s.rspValid := rfl
@[simp] theorem State.awaitChannel_chReq (req : BitVec 17) (s : State) : (s.awaitChannel req).chReq = if s.chTaken then none else some req := rfl
@[simp] theorem State.awaitChannel_chPending (req : BitVec 17) (s : State) : (s.awaitChannel req).chPending = if s.chTaken then some req else none := rfl
@[simp] theorem State.awaitChannel_dlyReq (req : BitVec 17) (s : State) : (s.awaitChannel req).dlyReq = s.dlyReq := rfl
@[simp] theorem State.awaitChannel_rst (req : BitVec 17) (s : State) : (s.awaitChannel req).rst = s.rst := rfl
@[simp] theorem State.awaitChannel_cmdIn (req : BitVec 17) (s : State) : (s.awaitChannel req).cmdIn = s.cmdIn := rfl
@[simp] theorem State.awaitChannel_chIn (req : BitVec 17) (s : State) : (s.awaitChannel req).chIn = s.chIn.tail := rfl
@[simp] theorem State.awaitChannel_dlyIn (req : BitVec 17) (s : State) : (s.awaitChannel req).dlyIn = s.dlyIn := rfl
@[simp] theorem State.awaitChannel_trace (req : BitVec 17) (s : State) : (s.awaitChannel req).trace = s.trace := rfl
@[simp] theorem State.awaitChannel_freeCnt (req : BitVec 17) (s : State) : (s.awaitChannel req).freeCnt = s.freeCnt := rfl

/-! ### State.awaitTimer -/

@[simp] theorem State.awaitTimer_cfg (ms : BitVec 8) (s : State) : (s.awaitTimer ms).cfg = s.cfg := rfl
@[simp] theorem State.awaitTimer_lifecycle (ms : BitVec 8) (s : State) : (s.awaitTimer ms).lifecycle = s.lifecycle := rfl
@[simp] theorem State.awaitTimer_phase (ms : BitVec 8) (s : State) : (s.awaitTimer ms).phase = s.phase := rfl
@[simp] theorem State.awaitTimer_pollCnt (ms : BitVec 8) (s : State) : (s.awaitTimer ms).pollCnt = s.pollCnt := rfl
@[simp] theorem State.awaitTimer_calIdx (ms : BitVec 8) (s : State) : (s.awaitTimer ms).calIdx = s.calIdx := rfl
@[simp] theorem State.awaitTimer_rawIdx (ms : BitVec 8) (s : State) : (s.awaitTimer ms).rawIdx = s.rawIdx := rfl
@[simp] theorem State.awaitTimer_byteLo (ms : BitVec 8) (s : State) : (s.awaitTimer ms).byteLo = s.byteLo := rfl
@[simp] theorem State.awaitTimer_cal (ms : BitVec 8) (s : State) : (s.awaitTimer ms).cal = s.cal := rfl
@[simp] theorem State.awaitTimer_calValid (ms : BitVec 8) (s : State) : (s.awaitTimer ms).calValid = s.calValid := rfl
@[simp] theorem State.awaitTimer_rawb (ms : BitVec 8) (s : State) : (s.awaitTimer ms).rawb = s.rawb := rfl
@[simp] theorem State.awaitTimer_rawT (ms : BitVec 8) (s : State) : (s.awaitTimer ms).rawT = s.rawT := rfl
@[simp] theorem State.awaitTimer_rawP (ms : BitVec 8) (s : State) : (s.awaitTimer ms).rawP = s.rawP := rfl
@[simp] theorem State.awaitTimer_tFine (ms : BitVec 8) (s : State) : (s.awaitTimer ms).tFine = s.tFine := rfl
@[simp] theorem State.awaitTimer_tempNew (ms : BitVec 8) (s : State) : (s.awaitTimer ms).tempNew = s.tempNew := rfl
@[simp] theorem State.awaitTimer_tempOut (ms : BitVec 8) (s : State) : (s.awaitTimer ms).tempOut = s.tempOut := rfl
@[simp] theorem State.awaitTimer_pressX256Out (ms : BitVec 8) (s : State) : (s.awaitTimer ms).pressX256Out = s.pressX256Out := rfl
@[simp] theorem State.awaitTimer_pressPaOut (ms : BitVec 8) (s : State) : (s.awaitTimer ms).pressPaOut = s.pressPaOut := rfl
@[simp] theorem State.awaitTimer_outValid (ms : BitVec 8) (s : State) : (s.awaitTimer ms).outValid = s.outValid := rfl
@[simp] theorem State.awaitTimer_rspStatus (ms : BitVec 8) (s : State) : (s.awaitTimer ms).rspStatus = s.rspStatus := rfl
@[simp] theorem State.awaitTimer_rspWarn (ms : BitVec 8) (s : State) : (s.awaitTimer ms).rspWarn = s.rspWarn := rfl
@[simp] theorem State.awaitTimer_warn (ms : BitVec 8) (s : State) : (s.awaitTimer ms).warn = s.warn := rfl
@[simp] theorem State.awaitTimer_lastErr (ms : BitVec 8) (s : State) : (s.awaitTimer ms).lastErr = s.lastErr := rfl
@[simp] theorem State.awaitTimer_rspValid (ms : BitVec 8) (s : State) : (s.awaitTimer ms).rspValid = s.rspValid := rfl
@[simp] theorem State.awaitTimer_chReq (ms : BitVec 8) (s : State) : (s.awaitTimer ms).chReq = s.chReq := rfl
@[simp] theorem State.awaitTimer_chPending (ms : BitVec 8) (s : State) : (s.awaitTimer ms).chPending = s.chPending := rfl
@[simp] theorem State.awaitTimer_dlyReq (ms : BitVec 8) (s : State) : (s.awaitTimer ms).dlyReq = some ms := rfl
@[simp] theorem State.awaitTimer_rst (ms : BitVec 8) (s : State) : (s.awaitTimer ms).rst = s.rst := rfl
@[simp] theorem State.awaitTimer_cmdIn (ms : BitVec 8) (s : State) : (s.awaitTimer ms).cmdIn = s.cmdIn := rfl
@[simp] theorem State.awaitTimer_chIn (ms : BitVec 8) (s : State) : (s.awaitTimer ms).chIn = s.chIn := rfl
@[simp] theorem State.awaitTimer_dlyIn (ms : BitVec 8) (s : State) : (s.awaitTimer ms).dlyIn = s.dlyIn.tail := rfl
@[simp] theorem State.awaitTimer_trace (ms : BitVec 8) (s : State) : (s.awaitTimer ms).trace = s.trace := rfl
@[simp] theorem State.awaitTimer_freeCnt (ms : BitVec 8) (s : State) : (s.awaitTimer ms).freeCnt = s.freeCnt := rfl

/-! ### State.takeAnswer -/

@[simp] theorem State.takeAnswer_cfg (s : State) : (s.takeAnswer).cfg = s.cfg := rfl
@[simp] theorem State.takeAnswer_lifecycle (s : State) : (s.takeAnswer).lifecycle = s.lifecycle := rfl
@[simp] theorem State.takeAnswer_phase (s : State) : (s.takeAnswer).phase = s.phase := rfl
@[simp] theorem State.takeAnswer_pollCnt (s : State) : (s.takeAnswer).pollCnt = s.pollCnt := rfl
@[simp] theorem State.takeAnswer_calIdx (s : State) : (s.takeAnswer).calIdx = s.calIdx := rfl
@[simp] theorem State.takeAnswer_rawIdx (s : State) : (s.takeAnswer).rawIdx = s.rawIdx := rfl
@[simp] theorem State.takeAnswer_byteLo (s : State) : (s.takeAnswer).byteLo = s.byteLo := rfl
@[simp] theorem State.takeAnswer_cal (s : State) : (s.takeAnswer).cal = s.cal := rfl
@[simp] theorem State.takeAnswer_calValid (s : State) : (s.takeAnswer).calValid = s.calValid := rfl
@[simp] theorem State.takeAnswer_rawb (s : State) : (s.takeAnswer).rawb = s.rawb := rfl
@[simp] theorem State.takeAnswer_rawT (s : State) : (s.takeAnswer).rawT = s.rawT := rfl
@[simp] theorem State.takeAnswer_rawP (s : State) : (s.takeAnswer).rawP = s.rawP := rfl
@[simp] theorem State.takeAnswer_tFine (s : State) : (s.takeAnswer).tFine = s.tFine := rfl
@[simp] theorem State.takeAnswer_tempNew (s : State) : (s.takeAnswer).tempNew = s.tempNew := rfl
@[simp] theorem State.takeAnswer_tempOut (s : State) : (s.takeAnswer).tempOut = s.tempOut := rfl
@[simp] theorem State.takeAnswer_pressX256Out (s : State) : (s.takeAnswer).pressX256Out = s.pressX256Out := rfl
@[simp] theorem State.takeAnswer_pressPaOut (s : State) : (s.takeAnswer).pressPaOut = s.pressPaOut := rfl
@[simp] theorem State.takeAnswer_outValid (s : State) : (s.takeAnswer).outValid = s.outValid := rfl
@[simp] theorem State.takeAnswer_rspStatus (s : State) : (s.takeAnswer).rspStatus = s.rspStatus := rfl
@[simp] theorem State.takeAnswer_rspWarn (s : State) : (s.takeAnswer).rspWarn = s.rspWarn := rfl
@[simp] theorem State.takeAnswer_warn (s : State) : (s.takeAnswer).warn = s.warn := rfl
@[simp] theorem State.takeAnswer_lastErr (s : State) : (s.takeAnswer).lastErr = s.lastErr := rfl
@[simp] theorem State.takeAnswer_rspValid (s : State) : (s.takeAnswer).rspValid = s.rspValid := rfl
@[simp] theorem State.takeAnswer_chReq (s : State) : (s.takeAnswer).chReq = none := rfl
@[simp] theorem State.takeAnswer_chPending (s : State) : (s.takeAnswer).chPending = none := rfl
@[simp] theorem State.takeAnswer_dlyReq (s : State) : (s.takeAnswer).dlyReq = s.dlyReq := rfl
@[simp] theorem State.takeAnswer_rst (s : State) : (s.takeAnswer).rst = s.rst := rfl
@[simp] theorem State.takeAnswer_cmdIn (s : State) : (s.takeAnswer).cmdIn = s.cmdIn := rfl
@[simp] theorem State.takeAnswer_chIn (s : State) : (s.takeAnswer).chIn = s.chIn.tail := rfl
@[simp] theorem State.takeAnswer_dlyIn (s : State) : (s.takeAnswer).dlyIn = s.dlyIn := rfl
@[simp] theorem State.takeAnswer_trace (s : State) : (s.takeAnswer).trace = s.trace := rfl
@[simp] theorem State.takeAnswer_freeCnt (s : State) : (s.takeAnswer).freeCnt = s.freeCnt := rfl

/-! ### State.takeDone -/

@[simp] theorem State.takeDone_cfg (s : State) : (s.takeDone).cfg = s.cfg := rfl
@[simp] theorem State.takeDone_lifecycle (s : State) : (s.takeDone).lifecycle = s.lifecycle := rfl
@[simp] theorem State.takeDone_phase (s : State) : (s.takeDone).phase = s.phase := rfl
@[simp] theorem State.takeDone_pollCnt (s : State) : (s.takeDone).pollCnt = s.pollCnt := rfl
@[simp] theorem State.takeDone_calIdx (s : State) : (s.takeDone).calIdx = s.calIdx := rfl
@[simp] theorem State.takeDone_rawIdx (s : State) : (s.takeDone).rawIdx = s.rawIdx := rfl
@[simp] theorem State.takeDone_byteLo (s : State) : (s.takeDone).byteLo = s.byteLo := rfl
@[simp] theorem State.takeDone_cal (s : State) : (s.takeDone).cal = s.cal := rfl
@[simp] theorem State.takeDone_calValid (s : State) : (s.takeDone).calValid = s.calValid := rfl
@[simp] theorem State.takeDone_rawb (s : State) : (s.takeDone).rawb = s.rawb := rfl
@[simp] theorem State.takeDone_rawT (s : State) : (s.takeDone).rawT = s.rawT := rfl
@[simp] theorem State.takeDone_rawP (s : State) : (s.takeDone).rawP = s.rawP := rfl
@[simp] theorem State.takeDone_tFine (s : State) : (s.takeDone).tFine = s.tFine := rfl
@[simp] theorem State.takeDone_tempNew (s : State) : (s.takeDone).tempNew = s.tempNew := rfl
@[simp] theorem State.takeDone_tempOut (s : State) : (s.takeDone).tempOut = s.tempOut := rfl
@[simp] theorem State.takeDone_pressX256Out (s : State) : (s.takeDone).pressX256Out = s.pressX256Out := rfl
@[simp] theorem State.takeDone_pressPaOut (s : State) : (s.takeDone).pressPaOut = s.pressPaOut := rfl
@[simp] theorem State.takeDone_outValid (s : State) : (s.takeDone).outValid = s.outValid := rfl
@[simp] theorem State.takeDone_rspStatus (s : State) : (s.takeDone).rspStatus = s.rspStatus := rfl
@[simp] theorem State.takeDone_rspWarn (s : State) : (s.takeDone).rspWarn = s.rspWarn := rfl
@[simp] theorem State.takeDone_warn (s : State) : (s.takeDone).warn = s.warn := rfl
@[simp] theorem State.takeDone_lastErr (s : State) : (s.takeDone).lastErr = s.lastErr := rfl
@[simp] theorem State.takeDone_rspValid (s : State) : (s.takeDone).rspValid = s.rspValid := rfl
@[simp] theorem State.takeDone_chReq (s : State) : (s.takeDone).chReq = s.chReq := rfl
@[simp] theorem State.takeDone_chPending (s : State) : (s.takeDone).chPending = s.chPending := rfl
@[simp] theorem State.takeDone_dlyReq (s : State) : (s.takeDone).dlyReq = none := rfl
@[simp] theorem State.takeDone_rst (s : State) : (s.takeDone).rst = s.rst := rfl
@[simp] theorem State.takeDone_cmdIn (s : State) : (s.takeDone).cmdIn = s.cmdIn := rfl
@[simp] theorem State.takeDone_chIn (s : State) : (s.takeDone).chIn = s.chIn := rfl
@[simp] theorem State.takeDone_dlyIn (s : State) : (s.takeDone).dlyIn = s.dlyIn.tail := rfl
@[simp] theorem State.takeDone_trace (s : State) : (s.takeDone).trace = s.trace := rfl
@[simp] theorem State.takeDone_freeCnt (s : State) : (s.takeDone).freeCnt = s.freeCnt := rfl

/-! ### State.setWarn -/

@[simp] theorem State.setWarn_cfg (flag : BitVec 2) (s : State) : (s.setWarn flag).cfg = s.cfg := rfl
@[simp] theorem State.setWarn_lifecycle (flag : BitVec 2) (s : State) : (s.setWarn flag).lifecycle = s.lifecycle := rfl
@[simp] theorem State.setWarn_phase (flag : BitVec 2) (s : State) : (s.setWarn flag).phase = s.phase := rfl
@[simp] theorem State.setWarn_pollCnt (flag : BitVec 2) (s : State) : (s.setWarn flag).pollCnt = s.pollCnt := rfl
@[simp] theorem State.setWarn_calIdx (flag : BitVec 2) (s : State) : (s.setWarn flag).calIdx = s.calIdx := rfl
@[simp] theorem State.setWarn_rawIdx (flag : BitVec 2) (s : State) : (s.setWarn flag).rawIdx = s.rawIdx := rfl
@[simp] theorem State.setWarn_byteLo (flag : BitVec 2) (s : State) : (s.setWarn flag).byteLo = s.byteLo := rfl
@[simp] theorem State.setWarn_cal (flag : BitVec 2) (s : State) : (s.setWarn flag).cal = s.cal := rfl
@[simp] theorem State.setWarn_calValid (flag : BitVec 2) (s : State) : (s.setWarn flag).calValid = s.calValid := rfl
@[simp] theorem State.setWarn_rawb (flag : BitVec 2) (s : State) : (s.setWarn flag).rawb = s.rawb := rfl
@[simp] theorem State.setWarn_rawT (flag : BitVec 2) (s : State) : (s.setWarn flag).rawT = s.rawT := rfl
@[simp] theorem State.setWarn_rawP (flag : BitVec 2) (s : State) : (s.setWarn flag).rawP = s.rawP := rfl
@[simp] theorem State.setWarn_tFine (flag : BitVec 2) (s : State) : (s.setWarn flag).tFine = s.tFine := rfl
@[simp] theorem State.setWarn_tempNew (flag : BitVec 2) (s : State) : (s.setWarn flag).tempNew = s.tempNew := rfl
@[simp] theorem State.setWarn_tempOut (flag : BitVec 2) (s : State) : (s.setWarn flag).tempOut = s.tempOut := rfl
@[simp] theorem State.setWarn_pressX256Out (flag : BitVec 2) (s : State) : (s.setWarn flag).pressX256Out = s.pressX256Out := rfl
@[simp] theorem State.setWarn_pressPaOut (flag : BitVec 2) (s : State) : (s.setWarn flag).pressPaOut = s.pressPaOut := rfl
@[simp] theorem State.setWarn_outValid (flag : BitVec 2) (s : State) : (s.setWarn flag).outValid = s.outValid := rfl
@[simp] theorem State.setWarn_rspStatus (flag : BitVec 2) (s : State) : (s.setWarn flag).rspStatus = s.rspStatus := rfl
@[simp] theorem State.setWarn_rspWarn (flag : BitVec 2) (s : State) : (s.setWarn flag).rspWarn = s.rspWarn := rfl
@[simp] theorem State.setWarn_warn (flag : BitVec 2) (s : State) : (s.setWarn flag).warn = s.warn ||| flag := rfl
@[simp] theorem State.setWarn_lastErr (flag : BitVec 2) (s : State) : (s.setWarn flag).lastErr = s.lastErr := rfl
@[simp] theorem State.setWarn_rspValid (flag : BitVec 2) (s : State) : (s.setWarn flag).rspValid = s.rspValid := rfl
@[simp] theorem State.setWarn_chReq (flag : BitVec 2) (s : State) : (s.setWarn flag).chReq = s.chReq := rfl
@[simp] theorem State.setWarn_chPending (flag : BitVec 2) (s : State) : (s.setWarn flag).chPending = s.chPending := rfl
@[simp] theorem State.setWarn_dlyReq (flag : BitVec 2) (s : State) : (s.setWarn flag).dlyReq = s.dlyReq := rfl
@[simp] theorem State.setWarn_rst (flag : BitVec 2) (s : State) : (s.setWarn flag).rst = s.rst := rfl
@[simp] theorem State.setWarn_cmdIn (flag : BitVec 2) (s : State) : (s.setWarn flag).cmdIn = s.cmdIn := rfl
@[simp] theorem State.setWarn_chIn (flag : BitVec 2) (s : State) : (s.setWarn flag).chIn = s.chIn := rfl
@[simp] theorem State.setWarn_dlyIn (flag : BitVec 2) (s : State) : (s.setWarn flag).dlyIn = s.dlyIn := rfl
@[simp] theorem State.setWarn_trace (flag : BitVec 2) (s : State) : (s.setWarn flag).trace = s.trace := rfl
@[simp] theorem State.setWarn_freeCnt (flag : BitVec 2) (s : State) : (s.setWarn flag).freeCnt = s.freeCnt := rfl

/-! ### State.clearWarn -/

@[simp] theorem State.clearWarn_cfg (s : State) : (s.clearWarn).cfg = s.cfg := rfl
@[simp] theorem State.clearWarn_lifecycle (s : State) : (s.clearWarn).lifecycle = s.lifecycle := rfl
@[simp] theorem State.clearWarn_phase (s : State) : (s.clearWarn).phase = s.phase := rfl
@[simp] theorem State.clearWarn_pollCnt (s : State) : (s.clearWarn).pollCnt = s.pollCnt := rfl
@[simp] theorem State.clearWarn_calIdx (s : State) : (s.clearWarn).calIdx = s.calIdx := rfl
@[simp] theorem State.clearWarn_rawIdx (s : State) : (s.clearWarn).rawIdx = s.rawIdx := rfl
@[simp] theorem State.clearWarn_byteLo (s : State) : (s.clearWarn).byteLo = s.byteLo := rfl
@[simp] theorem State.clearWarn_cal (s : State) : (s.clearWarn).cal = s.cal := rfl
@[simp] theorem State.clearWarn_calValid (s : State) : (s.clearWarn).calValid = s.calValid := rfl
@[simp] theorem State.clearWarn_rawb (s : State) : (s.clearWarn).rawb = s.rawb := rfl
@[simp] theorem State.clearWarn_rawT (s : State) : (s.clearWarn).rawT = s.rawT := rfl
@[simp] theorem State.clearWarn_rawP (s : State) : (s.clearWarn).rawP = s.rawP := rfl
@[simp] theorem State.clearWarn_tFine (s : State) : (s.clearWarn).tFine = s.tFine := rfl
@[simp] theorem State.clearWarn_tempNew (s : State) : (s.clearWarn).tempNew = s.tempNew := rfl
@[simp] theorem State.clearWarn_tempOut (s : State) : (s.clearWarn).tempOut = s.tempOut := rfl
@[simp] theorem State.clearWarn_pressX256Out (s : State) : (s.clearWarn).pressX256Out = s.pressX256Out := rfl
@[simp] theorem State.clearWarn_pressPaOut (s : State) : (s.clearWarn).pressPaOut = s.pressPaOut := rfl
@[simp] theorem State.clearWarn_outValid (s : State) : (s.clearWarn).outValid = s.outValid := rfl
@[simp] theorem State.clearWarn_rspStatus (s : State) : (s.clearWarn).rspStatus = s.rspStatus := rfl
@[simp] theorem State.clearWarn_rspWarn (s : State) : (s.clearWarn).rspWarn = s.rspWarn := rfl
@[simp] theorem State.clearWarn_warn (s : State) : (s.clearWarn).warn = 0#2 := rfl
@[simp] theorem State.clearWarn_lastErr (s : State) : (s.clearWarn).lastErr = s.lastErr := rfl
@[simp] theorem State.clearWarn_rspValid (s : State) : (s.clearWarn).rspValid = s.rspValid := rfl
@[simp] theorem State.clearWarn_chReq (s : State) : (s.clearWarn).chReq = s.chReq := rfl
@[simp] theorem State.clearWarn_chPending (s : State) : (s.clearWarn).chPending = s.chPending := rfl
@[simp] theorem State.clearWarn_dlyReq (s : State) : (s.clearWarn).dlyReq = s.dlyReq := rfl
@[simp] theorem State.clearWarn_rst (s : State) : (s.clearWarn).rst = s.rst := rfl
@[simp] theorem State.clearWarn_cmdIn (s : State) : (s.clearWarn).cmdIn = s.cmdIn := rfl
@[simp] theorem State.clearWarn_chIn (s : State) : (s.clearWarn).chIn = s.chIn := rfl
@[simp] theorem State.clearWarn_dlyIn (s : State) : (s.clearWarn).dlyIn = s.dlyIn := rfl
@[simp] theorem State.clearWarn_trace (s : State) : (s.clearWarn).trace = s.trace := rfl
@[simp] theorem State.clearWarn_freeCnt (s : State) : (s.clearWarn).freeCnt = s.freeCnt := rfl

/-! ### State.takeCommand -/

@[simp] theorem State.takeCommand_cfg (s : State) : (s.takeCommand).cfg = s.cfg := rfl
@[simp] theorem State.takeCommand_lifecycle (s : State) : (s.takeCommand).lifecycle = s.lifecycle := rfl
@[simp] theorem State.takeCommand_phase (s : State) : (s.takeCommand).phase = s.phase := rfl
@[simp] theorem State.takeCommand_pollCnt (s : State) : (s.takeCommand).pollCnt = s.pollCnt := rfl
@[simp] theorem State.takeCommand_calIdx (s : State) : (s.takeCommand).calIdx = s.calIdx := rfl
@[simp] theorem State.takeCommand_rawIdx (s : State) : (s.takeCommand).rawIdx = s.rawIdx := rfl
@[simp] theorem State.takeCommand_byteLo (s : State) : (s.takeCommand).byteLo = s.byteLo := rfl
@[simp] theorem State.takeCommand_cal (s : State) : (s.takeCommand).cal = s.cal := rfl
@[simp] theorem State.takeCommand_calValid (s : State) : (s.takeCommand).calValid = s.calValid := rfl
@[simp] theorem State.takeCommand_rawb (s : State) : (s.takeCommand).rawb = s.rawb := rfl
@[simp] theorem State.takeCommand_rawT (s : State) : (s.takeCommand).rawT = s.rawT := rfl
@[simp] theorem State.takeCommand_rawP (s : State) : (s.takeCommand).rawP = s.rawP := rfl
@[simp] theorem State.takeCommand_tFine (s : State) : (s.takeCommand).tFine = s.tFine := rfl
@[simp] theorem State.takeCommand_tempNew (s : State) : (s.takeCommand).tempNew = s.tempNew := rfl
@[simp] theorem State.takeCommand_tempOut (s : State) : (s.takeCommand).tempOut = s.tempOut := rfl
@[simp] theorem State.takeCommand_pressX256Out (s : State) : (s.takeCommand).pressX256Out = s.pressX256Out := rfl
@[simp] theorem State.takeCommand_pressPaOut (s : State) : (s.takeCommand).pressPaOut = s.pressPaOut := rfl
@[simp] theorem State.takeCommand_outValid (s : State) : (s.takeCommand).outValid = s.outValid := rfl
@[simp] theorem State.takeCommand_rspStatus (s : State) : (s.takeCommand).rspStatus = s.rspStatus := rfl
@[simp] theorem State.takeCommand_rspWarn (s : State) : (s.takeCommand).rspWarn = s.rspWarn := rfl
@[simp] theorem State.takeCommand_warn (s : State) : (s.takeCommand).warn = s.warn := rfl
@[simp] theorem State.takeCommand_lastErr (s : State) : (s.takeCommand).lastErr = s.lastErr := rfl
@[simp] theorem State.takeCommand_rspValid (s : State) : (s.takeCommand).rspValid = s.rspValid := rfl
@[simp] theorem State.takeCommand_chReq (s : State) : (s.takeCommand).chReq = s.chReq := rfl
@[simp] theorem State.takeCommand_chPending (s : State) : (s.takeCommand).chPending = s.chPending := rfl
@[simp] theorem State.takeCommand_dlyReq (s : State) : (s.takeCommand).dlyReq = s.dlyReq := rfl
@[simp] theorem State.takeCommand_rst (s : State) : (s.takeCommand).rst = s.rst := rfl
@[simp] theorem State.takeCommand_cmdIn (s : State) : (s.takeCommand).cmdIn = s.cmdIn.tail := rfl
@[simp] theorem State.takeCommand_chIn (s : State) : (s.takeCommand).chIn = s.chIn := rfl
@[simp] theorem State.takeCommand_dlyIn (s : State) : (s.takeCommand).dlyIn = s.dlyIn := rfl
@[simp] theorem State.takeCommand_trace (s : State) : (s.takeCommand).trace = s.trace := rfl
@[simp] theorem State.takeCommand_freeCnt (s : State) : (s.takeCommand).freeCnt = s.freeCnt := rfl

/-! ### State.beginStep -/

@[simp] theorem State.beginStep_cfg (s : State) : (s.beginStep).cfg = s.cfg := rfl
@[simp] theorem State.beginStep_lifecycle (s : State) : (s.beginStep).lifecycle = s.lifecycle := rfl
@[simp] theorem State.beginStep_phase (s : State) : (s.beginStep).phase = s.phase := rfl
@[simp] theorem State.beginStep_pollCnt (s : State) : (s.beginStep).pollCnt = s.pollCnt := rfl
@[simp] theorem State.beginStep_calIdx (s : State) : (s.beginStep).calIdx = s.calIdx := rfl
@[simp] theorem State.beginStep_rawIdx (s : State) : (s.beginStep).rawIdx = s.rawIdx := rfl
@[simp] theorem State.beginStep_byteLo (s : State) : (s.beginStep).byteLo = s.byteLo := rfl
@[simp] theorem State.beginStep_cal (s : State) : (s.beginStep).cal = s.cal := rfl
@[simp] theorem State.beginStep_calValid (s : State) : (s.beginStep).calValid = s.calValid := rfl
@[simp] theorem State.beginStep_rawb (s : State) : (s.beginStep).rawb = s.rawb := rfl
@[simp] theorem State.beginStep_rawT (s : State) : (s.beginStep).rawT = s.rawT := rfl
@[simp] theorem State.beginStep_rawP (s : State) : (s.beginStep).rawP = s.rawP := rfl
@[simp] theorem State.beginStep_tFine (s : State) : (s.beginStep).tFine = s.tFine := rfl
@[simp] theorem State.beginStep_tempNew (s : State) : (s.beginStep).tempNew = s.tempNew := rfl
@[simp] theorem State.beginStep_tempOut (s : State) : (s.beginStep).tempOut = s.tempOut := rfl
@[simp] theorem State.beginStep_pressX256Out (s : State) : (s.beginStep).pressX256Out = s.pressX256Out := rfl
@[simp] theorem State.beginStep_pressPaOut (s : State) : (s.beginStep).pressPaOut = s.pressPaOut := rfl
@[simp] theorem State.beginStep_outValid (s : State) : (s.beginStep).outValid = s.outValid := rfl
@[simp] theorem State.beginStep_rspStatus (s : State) : (s.beginStep).rspStatus = s.rspStatus := rfl
@[simp] theorem State.beginStep_rspWarn (s : State) : (s.beginStep).rspWarn = s.rspWarn := rfl
@[simp] theorem State.beginStep_warn (s : State) : (s.beginStep).warn = s.warn := rfl
@[simp] theorem State.beginStep_lastErr (s : State) : (s.beginStep).lastErr = s.lastErr := rfl
@[simp] theorem State.beginStep_rspValid (s : State) : (s.beginStep).rspValid = false := rfl
@[simp] theorem State.beginStep_chReq (s : State) : (s.beginStep).chReq = s.chReq := rfl
@[simp] theorem State.beginStep_chPending (s : State) : (s.beginStep).chPending = s.chPending := rfl
@[simp] theorem State.beginStep_dlyReq (s : State) : (s.beginStep).dlyReq = s.dlyReq := rfl
@[simp] theorem State.beginStep_rst (s : State) : (s.beginStep).rst = s.rst.tail := rfl
@[simp] theorem State.beginStep_cmdIn (s : State) : (s.beginStep).cmdIn = s.cmdIn := rfl
@[simp] theorem State.beginStep_chIn (s : State) : (s.beginStep).chIn = s.chIn := rfl
@[simp] theorem State.beginStep_dlyIn (s : State) : (s.beginStep).dlyIn = s.dlyIn := rfl
@[simp] theorem State.beginStep_trace (s : State) : (s.beginStep).trace = s.trace := rfl
@[simp] theorem State.beginStep_freeCnt (s : State) : (s.beginStep).freeCnt = s.freeCnt + 1 := rfl

/-! ### State.respond -/

@[simp] theorem State.respond_cfg (st : Status) (s : State) : (s.respond st).cfg = s.cfg := rfl
@[simp] theorem State.respond_lifecycle (st : Status) (s : State) : (s.respond st).lifecycle = s.lifecycle := rfl
@[simp] theorem State.respond_phase (st : Status) (s : State) : (s.respond st).phase = .idle := rfl
@[simp] theorem State.respond_pollCnt (st : Status) (s : State) : (s.respond st).pollCnt = s.pollCnt := rfl
@[simp] theorem State.respond_calIdx (st : Status) (s : State) : (s.respond st).calIdx = s.calIdx := rfl
@[simp] theorem State.respond_rawIdx (st : Status) (s : State) : (s.respond st).rawIdx = s.rawIdx := rfl
@[simp] theorem State.respond_byteLo (st : Status) (s : State) : (s.respond st).byteLo = s.byteLo := rfl
@[simp] theorem State.respond_cal (st : Status) (s : State) : (s.respond st).cal = s.cal := rfl
@[simp] theorem State.respond_calValid (st : Status) (s : State) : (s.respond st).calValid = s.calValid := rfl
@[simp] theorem State.respond_rawb (st : Status) (s : State) : (s.respond st).rawb = s.rawb := rfl
@[simp] theorem State.respond_rawT (st : Status) (s : State) : (s.respond st).rawT = s.rawT := rfl
@[simp] theorem State.respond_rawP (st : Status) (s : State) : (s.respond st).rawP = s.rawP := rfl
@[simp] theorem State.respond_tFine (st : Status) (s : State) : (s.respond st).tFine = s.tFine := rfl
@[simp] theorem State.respond_tempNew (st : Status) (s : State) : (s.respond st).tempNew = s.tempNew := rfl
@[simp] theorem State.respond_tempOut (st : Status) (s : State) : (s.respond st).tempOut = s.tempOut := rfl
@[simp] theorem State.respond_pressX256Out (st : Status) (s : State) : (s.respond st).pressX256Out = s.pressX256Out := rfl
@[simp] theorem State.respond_pressPaOut (st : Status) (s : State) : (s.respond st).pressPaOut = s.pressPaOut := rfl
@[simp] theorem State.respond_outValid (st : Status) (s : State) : (s.respond st).outValid = s.outValid := rfl
@[simp] theorem State.respond_rspStatus (st : Status) (s : State) : (s.respond st).rspStatus = st := rfl
@[simp] theorem State.respond_rspWarn (st : Status) (s : State) : (s.respond st).rspWarn = s.warn := rfl
@[simp] theorem State.respond_warn (st : Status) (s : State) : (s.respond st).warn = s.warn := rfl
@[simp] theorem State.respond_lastErr (st : Status) (s : State) : (s.respond st).lastErr = s.lastErr := rfl
@[simp] theorem State.respond_rspValid (st : Status) (s : State) : (s.respond st).rspValid = true := rfl
@[simp] theorem State.respond_chReq (st : Status) (s : State) : (s.respond st).chReq = s.chReq := rfl
@[simp] theorem State.respond_chPending (st : Status) (s : State) : (s.respond st).chPending = s.chPending := rfl
@[simp] theorem State.respond_dlyReq (st : Status) (s : State) : (s.respond st).dlyReq = s.dlyReq := rfl
@[simp] theorem State.respond_rst (st : Status) (s : State) : (s.respond st).rst = s.rst := rfl
@[simp] theorem State.respond_cmdIn (st : Status) (s : State) : (s.respond st).cmdIn = s.cmdIn := rfl
@[simp] theorem State.respond_chIn (st : Status) (s : State) : (s.respond st).chIn = s.chIn := rfl
@[simp] theorem State.respond_dlyIn (st : Status) (s : State) : (s.respond st).dlyIn = s.dlyIn := rfl
@[simp] theorem State.respond_trace (st : Status) (s : State) : (s.respond st).trace = s.trace ++ [.rsp ⟨st, s.warn, s.readingPorts⟩] := rfl
@[simp] theorem State.respond_freeCnt (st : Status) (s : State) : (s.respond st).freeCnt = s.freeCnt := rfl

/-! ### State.fail -/

@[simp] theorem State.fail_cfg (code : Status) (s : State) : (s.fail code).cfg = s.cfg := rfl
@[simp] theorem State.fail_lifecycle (code : Status) (s : State) : (s.fail code).lifecycle = .failed := rfl
@[simp] theorem State.fail_phase (code : Status) (s : State) : (s.fail code).phase = .idle := rfl
@[simp] theorem State.fail_pollCnt (code : Status) (s : State) : (s.fail code).pollCnt = s.pollCnt := rfl
@[simp] theorem State.fail_calIdx (code : Status) (s : State) : (s.fail code).calIdx = s.calIdx := rfl
@[simp] theorem State.fail_rawIdx (code : Status) (s : State) : (s.fail code).rawIdx = s.rawIdx := rfl
@[simp] theorem State.fail_byteLo (code : Status) (s : State) : (s.fail code).byteLo = s.byteLo := rfl
@[simp] theorem State.fail_cal (code : Status) (s : State) : (s.fail code).cal = s.cal := rfl
@[simp] theorem State.fail_calValid (code : Status) (s : State) : (s.fail code).calValid = false := rfl
@[simp] theorem State.fail_rawb (code : Status) (s : State) : (s.fail code).rawb = s.rawb := rfl
@[simp] theorem State.fail_rawT (code : Status) (s : State) : (s.fail code).rawT = s.rawT := rfl
@[simp] theorem State.fail_rawP (code : Status) (s : State) : (s.fail code).rawP = s.rawP := rfl
@[simp] theorem State.fail_tFine (code : Status) (s : State) : (s.fail code).tFine = s.tFine := rfl
@[simp] theorem State.fail_tempNew (code : Status) (s : State) : (s.fail code).tempNew = s.tempNew := rfl
@[simp] theorem State.fail_tempOut (code : Status) (s : State) : (s.fail code).tempOut = s.tempOut := rfl
@[simp] theorem State.fail_pressX256Out (code : Status) (s : State) : (s.fail code).pressX256Out = s.pressX256Out := rfl
@[simp] theorem State.fail_pressPaOut (code : Status) (s : State) : (s.fail code).pressPaOut = s.pressPaOut := rfl
@[simp] theorem State.fail_outValid (code : Status) (s : State) : (s.fail code).outValid = s.outValid := rfl
@[simp] theorem State.fail_rspStatus (code : Status) (s : State) : (s.fail code).rspStatus = code := rfl
@[simp] theorem State.fail_rspWarn (code : Status) (s : State) : (s.fail code).rspWarn = s.warn := rfl
@[simp] theorem State.fail_warn (code : Status) (s : State) : (s.fail code).warn = s.warn := rfl
@[simp] theorem State.fail_lastErr (code : Status) (s : State) : (s.fail code).lastErr = code := rfl
@[simp] theorem State.fail_rspValid (code : Status) (s : State) : (s.fail code).rspValid = true := rfl
@[simp] theorem State.fail_chReq (code : Status) (s : State) : (s.fail code).chReq = s.chReq := rfl
@[simp] theorem State.fail_chPending (code : Status) (s : State) : (s.fail code).chPending = s.chPending := rfl
@[simp] theorem State.fail_dlyReq (code : Status) (s : State) : (s.fail code).dlyReq = s.dlyReq := rfl
@[simp] theorem State.fail_rst (code : Status) (s : State) : (s.fail code).rst = s.rst := rfl
@[simp] theorem State.fail_cmdIn (code : Status) (s : State) : (s.fail code).cmdIn = s.cmdIn := rfl
@[simp] theorem State.fail_chIn (code : Status) (s : State) : (s.fail code).chIn = s.chIn := rfl
@[simp] theorem State.fail_dlyIn (code : Status) (s : State) : (s.fail code).dlyIn = s.dlyIn := rfl
@[simp] theorem State.fail_trace (code : Status) (s : State) : (s.fail code).trace = s.trace ++ [.rsp ⟨code, s.warn, s.readingPorts⟩] := rfl
@[simp] theorem State.fail_freeCnt (code : Status) (s : State) : (s.fail code).freeCnt = s.freeCnt := rfl

/-! ### State.publish -/

@[simp] theorem State.publish_cfg (t p : S64) (s : State) : (s.publish t p).cfg = s.cfg := rfl
@[simp] theorem State.publish_lifecycle (t p : S64) (s : State) : (s.publish t p).lifecycle = s.lifecycle := rfl
@[simp] theorem State.publish_phase (t p : S64) (s : State) : (s.publish t p).phase = s.phase := rfl
@[simp] theorem State.publish_pollCnt (t p : S64) (s : State) : (s.publish t p).pollCnt = s.pollCnt := rfl
@[simp] theorem State.publish_calIdx (t p : S64) (s : State) : (s.publish t p).calIdx = s.calIdx := rfl
@[simp] theorem State.publish_rawIdx (t p : S64) (s : State) : (s.publish t p).rawIdx = s.rawIdx := rfl
@[simp] theorem State.publish_byteLo (t p : S64) (s : State) : (s.publish t p).byteLo = s.byteLo := rfl
@[simp] theorem State.publish_cal (t p : S64) (s : State) : (s.publish t p).cal = s.cal := rfl
@[simp] theorem State.publish_calValid (t p : S64) (s : State) : (s.publish t p).calValid = s.calValid := rfl
@[simp] theorem State.publish_rawb (t p : S64) (s : State) : (s.publish t p).rawb = s.rawb := rfl
@[simp] theorem State.publish_rawT (t p : S64) (s : State) : (s.publish t p).rawT = s.rawT := rfl
@[simp] theorem State.publish_rawP (t p : S64) (s : State) : (s.publish t p).rawP = s.rawP := rfl
@[simp] theorem State.publish_tFine (t p : S64) (s : State) : (s.publish t p).tFine = s.tFine := rfl
@[simp] theorem State.publish_tempNew (t p : S64) (s : State) : (s.publish t p).tempNew = s.tempNew := rfl
@[simp] theorem State.publish_tempOut (t p : S64) (s : State) : (s.publish t p).tempOut = t := rfl
@[simp] theorem State.publish_pressX256Out (t p : S64) (s : State) : (s.publish t p).pressX256Out = p := rfl
@[simp] theorem State.publish_pressPaOut (t p : S64) (s : State) : (s.publish t p).pressPaOut = sdiv64 p 256#64 := rfl
@[simp] theorem State.publish_outValid (t p : S64) (s : State) : (s.publish t p).outValid = true := rfl
@[simp] theorem State.publish_rspStatus (t p : S64) (s : State) : (s.publish t p).rspStatus = s.rspStatus := rfl
@[simp] theorem State.publish_rspWarn (t p : S64) (s : State) : (s.publish t p).rspWarn = s.rspWarn := rfl
@[simp] theorem State.publish_warn (t p : S64) (s : State) : (s.publish t p).warn = s.warn := rfl
@[simp] theorem State.publish_lastErr (t p : S64) (s : State) : (s.publish t p).lastErr = s.lastErr := rfl
@[simp] theorem State.publish_rspValid (t p : S64) (s : State) : (s.publish t p).rspValid = s.rspValid := rfl
@[simp] theorem State.publish_chReq (t p : S64) (s : State) : (s.publish t p).chReq = s.chReq := rfl
@[simp] theorem State.publish_chPending (t p : S64) (s : State) : (s.publish t p).chPending = s.chPending := rfl
@[simp] theorem State.publish_dlyReq (t p : S64) (s : State) : (s.publish t p).dlyReq = s.dlyReq := rfl
@[simp] theorem State.publish_rst (t p : S64) (s : State) : (s.publish t p).rst = s.rst := rfl
@[simp] theorem State.publish_cmdIn (t p : S64) (s : State) : (s.publish t p).cmdIn = s.cmdIn := rfl
@[simp] theorem State.publish_chIn (t p : S64) (s : State) : (s.publish t p).chIn = s.chIn := rfl
@[simp] theorem State.publish_dlyIn (t p : S64) (s : State) : (s.publish t p).dlyIn = s.dlyIn := rfl
@[simp] theorem State.publish_trace (t p : S64) (s : State) : (s.publish t p).trace = s.trace := rfl
@[simp] theorem State.publish_freeCnt (t p : S64) (s : State) : (s.publish t p).freeCnt = s.freeCnt := rfl

/-! ### State.hardReset -/

@[simp] theorem State.hardReset_cfg (s : State) : (s.hardReset).cfg = s.cfg := rfl
@[simp] theorem State.hardReset_lifecycle (s : State) : (s.hardReset).lifecycle = .unattached := rfl
@[simp] theorem State.hardReset_phase (s : State) : (s.hardReset).phase = .idle := rfl
@[simp] theorem State.hardReset_pollCnt (s : State) : (s.hardReset).pollCnt = 0#4 := rfl
@[simp] theorem State.hardReset_calIdx (s : State) : (s.hardReset).calIdx = 0 := rfl
@[simp] theorem State.hardReset_rawIdx (s : State) : (s.hardReset).rawIdx = 0 := rfl
@[simp] theorem State.hardReset_byteLo (s : State) : (s.hardReset).byteLo = 0#8 := rfl
@[simp] theorem State.hardReset_cal (s : State) : (s.hardReset).cal = Vector.replicate 12 0#16 := rfl
@[simp] theorem State.hardReset_calValid (s : State) : (s.hardReset).calValid = false := rfl
@[simp] theorem State.hardReset_rawb (s : State) : (s.hardReset).rawb = Vector.replicate 6 0#8 := rfl
@[simp] theorem State.hardReset_rawT (s : State) : (s.hardReset).rawT = 0#20 := rfl
@[simp] theorem State.hardReset_rawP (s : State) : (s.hardReset).rawP = 0#20 := rfl
@[simp] theorem State.hardReset_tFine (s : State) : (s.hardReset).tFine = 0#64 := rfl
@[simp] theorem State.hardReset_tempNew (s : State) : (s.hardReset).tempNew = 0#64 := rfl
@[simp] theorem State.hardReset_tempOut (s : State) : (s.hardReset).tempOut = 0#64 := rfl
@[simp] theorem State.hardReset_pressX256Out (s : State) : (s.hardReset).pressX256Out = 0#64 := rfl
@[simp] theorem State.hardReset_pressPaOut (s : State) : (s.hardReset).pressPaOut = 0#64 := rfl
@[simp] theorem State.hardReset_outValid (s : State) : (s.hardReset).outValid = false := rfl
@[simp] theorem State.hardReset_rspStatus (s : State) : (s.hardReset).rspStatus = .ok := rfl
@[simp] theorem State.hardReset_rspWarn (s : State) : (s.hardReset).rspWarn = 0#2 := rfl
@[simp] theorem State.hardReset_warn (s : State) : (s.hardReset).warn = 0#2 := rfl
@[simp] theorem State.hardReset_lastErr (s : State) : (s.hardReset).lastErr = .ok := rfl
@[simp] theorem State.hardReset_rspValid (s : State) : (s.hardReset).rspValid = false := rfl
@[simp] theorem State.hardReset_chReq (s : State) : (s.hardReset).chReq = none := rfl
@[simp] theorem State.hardReset_chPending (s : State) : (s.hardReset).chPending = none := rfl
@[simp] theorem State.hardReset_dlyReq (s : State) : (s.hardReset).dlyReq = none := rfl
@[simp] theorem State.hardReset_rst (s : State) : (s.hardReset).rst = s.rst := rfl
@[simp] theorem State.hardReset_cmdIn (s : State) : (s.hardReset).cmdIn = s.cmdIn := rfl
@[simp] theorem State.hardReset_chIn (s : State) : (s.hardReset).chIn = if s.chPending.isSome then ignoreLateAnswer s.chIn else s.chIn := rfl
@[simp] theorem State.hardReset_dlyIn (s : State) : (s.hardReset).dlyIn = if s.dlyReq.isSome then ignoreLateDone s.dlyIn else s.dlyIn := rfl
@[simp] theorem State.hardReset_trace (s : State) : (s.hardReset).trace = [] := rfl
@[simp] theorem State.hardReset_freeCnt (s : State) : (s.hardReset).freeCnt = s.freeCnt := rfl

end Sys2Proof.Machine
end

