-- ==== Sys2Proof/Laws/Ops.lean ====
section
/-! SUPPORT. One lemma for each shared operation that says all it can do. -/

namespace Sys2Proof.Machine

theorem readAnswer_err {w : BitVec 9} (h : chrErr w = true) : readAnswer w = .err := by simp [readAnswer, h]

theorem readAnswer_byte {w : BitVec 9} (h : chrErr w = false) : readAnswer w = .byte (chrData w) := by simp [readAnswer, h]

theorem writeAnswer_err {w : BitVec 9} (h : chrErr w = true) : writeAnswer w = .err := by simp [writeAnswer, h]

theorem writeAnswer_ok {w : BitVec 9} (h : chrErr w = false) : writeAnswer w = .ok := by simp [writeAnswer, h]

/-- A channel that is ready and answers in one step. -/
theorem channelAnswer_of_ready {s : State} {a : Option (BitVec 9)} {rest : List ChannelInput}
    (h : s.chIn = ⟨true, a⟩ :: rest) : s.channelAnswer = a := by
  simp [State.channelAnswer, State.chTaken, State.channelReady, h]

/-- An accepted transaction gets the next answer that comes, whatever `ch_req_ready` is. -/
theorem channelAnswer_of_pending {s : State} {e : ChannelInput} {rest : List ChannelInput}
    (hp : s.chPending.isSome = true) (h : s.chIn = e :: rest) : s.channelAnswer = e.rsp := by
  simp [State.channelAnswer, State.chTaken, hp, h]

/-- A request that is not accepted gets no answer. -/
theorem channelAnswer_of_not_taken {s : State} (h : s.chTaken = false) : s.channelAnswer = none := by
  unfold State.channelAnswer
  split <;> simp [h]

theorem channelAnswer_nil {s : State} (h : s.chIn = []) : s.channelAnswer = none := by
  simp [State.channelAnswer, h]

theorem chTaken_of_channelAnswer {s : State} {w : BitVec 9} (h : s.channelAnswer = some w) : s.chTaken = true := by
  cases ht : s.chTaken with
  | true => rfl
  | false => rw [channelAnswer_of_not_taken ht] at h; cases h

/-- An answer that comes is in the head of the input list. -/
theorem chIn_of_channelAnswer {s : State} {w : BitVec 9} (h : s.channelAnswer = some w) :
    ∃ e : ChannelInput, e.rsp = some w ∧ s.chIn = e :: s.chIn.tail := by
  have ht := chTaken_of_channelAnswer h
  unfold State.channelAnswer at h
  split at h
  · rename_i e _ hs
    exact ⟨e, by simpa [ht] using h, by simp [hs]⟩
  · cases h

/-- The three ways a step of waiting leaves the channel: on offer, accepted in this step, still awaited. -/
theorem awaitChannel_cases (req : BitVec 17) (s : State) :
    (s.chTaken = false ∧ s.awaitChannel req = { s with chReq := some req, chPending := none, chIn := s.chIn.tail }) ∨
    (s.chTaken = true ∧ s.awaitChannel req = { s with chReq := none, chPending := some req, chIn := s.chIn.tail }) := by
  cases h : s.chTaken
  · exact .inl ⟨rfl, by simp [State.awaitChannel, h]⟩
  · exact .inr ⟨rfl, by simp [State.awaitChannel, h]⟩

theorem dlyIn_of_timerDone {s : State} (h : s.timerDone = true) : s.dlyIn = true :: s.dlyIn.tail := by
  unfold State.timerDone at h
  split at h
  · simp_all
  · cases h

theorem cmdIn_of_commandOffered {s : State} {op : BitVec 2} (h : s.commandOffered = some op) :
    s.cmdIn = some op :: s.cmdIn.tail := by
  unfold State.commandOffered at h
  split at h
  · cases h; simp_all
  · cases h

theorem memRead_answered {s : State} {w : BitVec 9} (h : s.channelAnswer = some w) (addr : Addr)
    (k : ReadAnswer → State → Result) :
    s.memRead addr k = k (readAnswer w) (s.takeAnswer.record (.rd8 addr (readAnswer w))) := by
  simp [State.memRead, h]

theorem memRead_silent {s : State} (h : s.channelAnswer = none) (addr : Addr) (k : ReadAnswer → State → Result) :
    s.memRead addr k = .next (s.awaitChannel (rd8Word addr)) := by
  simp [State.memRead, h]

theorem memWrite_answered {s : State} {w : BitVec 9} (h : s.channelAnswer = some w) (addr : Addr) (v : Byte)
    (k : WriteAnswer → State → Result) :
    s.memWrite addr v k = k (writeAnswer w) (s.takeAnswer.record (.wr8 addr v (writeAnswer w))) := by
  simp [State.memWrite, h]

theorem memWrite_silent {s : State} (h : s.channelAnswer = none) (addr : Addr) (v : Byte)
    (k : WriteAnswer → State → Result) :
    s.memWrite addr v k = .next (s.awaitChannel (wr8Word addr v)) := by
  simp [State.memWrite, h]

theorem delay_done {s : State} (h : s.timerDone = true) (ms : BitVec 8) (k : State → Result) :
    s.delay ms k = k (s.takeDone.record (.dly ms)) := by
  simp [State.delay, h]

theorem delay_silent {s : State} (h : s.timerDone = false) (ms : BitVec 8) (k : State → Result) :
    s.delay ms k = .next (s.awaitTimer ms) := by
  simp [State.delay, h]

/-- All a read can do: wait with its request on the port, or take the answer, record it and go on. -/
theorem memRead_cases (s : State) (addr : Addr) (k : ReadAnswer → State → Result) :
    (s.channelAnswer = none ∧ s.memRead addr k = .next (s.awaitChannel (rd8Word addr))) ∨
    (∃ w, s.channelAnswer = some w ∧
      s.memRead addr k = k (readAnswer w) (s.takeAnswer.record (.rd8 addr (readAnswer w)))) := by
  cases h : s.channelAnswer with
  | none => exact .inl ⟨rfl, memRead_silent h addr k⟩
  | some w => exact .inr ⟨w, rfl, memRead_answered h addr k⟩

/-- All a write can do. -/
theorem memWrite_cases (s : State) (addr : Addr) (v : Byte) (k : WriteAnswer → State → Result) :
    (s.channelAnswer = none ∧ s.memWrite addr v k = .next (s.awaitChannel (wr8Word addr v))) ∨
    (∃ w, s.channelAnswer = some w ∧
      s.memWrite addr v k = k (writeAnswer w) (s.takeAnswer.record (.wr8 addr v (writeAnswer w)))) := by
  cases h : s.channelAnswer with
  | none => exact .inl ⟨rfl, memWrite_silent h addr v k⟩
  | some w => exact .inr ⟨w, rfl, memWrite_answered h addr v k⟩

/-- All a delay can do. -/
theorem delay_cases (s : State) (ms : BitVec 8) (k : State → Result) :
    (s.timerDone = false ∧ s.delay ms k = .next (s.awaitTimer ms)) ∨
    (s.timerDone = true ∧ s.delay ms k = k (s.takeDone.record (.dly ms))) := by
  cases h : s.timerDone with
  | false => exact .inl ⟨rfl, delay_silent h ms k⟩
  | true => exact .inr ⟨rfl, delay_done h ms k⟩

theorem execIdle_offered {s : State} {op : BitVec 2} (h : s.commandOffered = some op) :
    execIdle s = dispatchCommand op s.takeCommand := by simp [execIdle, h]

theorem execIdle_quiet {s : State} (h : s.commandOffered = none) : execIdle s = .next s.takeCommand := by
  simp [execIdle, h]

/-- What a byte does to the store: nothing but `BYTE_LO` or one word of `CAL`. -/
theorem storeCalByte_cases (b : Byte) (s : State) :
    (s.calIdx.val % 2 = 0 ∧ s.storeCalByte b = { s with byteLo := b }) ∨
    (s.calIdx.val % 2 = 1 ∧ s.storeCalByte b =
      { s with cal := s.cal.set (calWordIdx s.calIdx).val (u16le b s.byteLo) (calWordIdx s.calIdx).isLt }) := by
  rcases Nat.mod_two_eq_zero_or_one s.calIdx.val with h | h
  · exact .inl ⟨h, by simp [State.storeCalByte, h]⟩
  · exact .inr ⟨h, by simp [State.storeCalByte, h]⟩

end Sys2Proof.Machine
end

