-- ==== Sys2Proof/Laws/Step.lean ====
section
/-! SUPPORT. What a step runs. -/

namespace Sys2Proof.Machine

/-- The operation a phase names. -/
def phaseInstr : Phase → Instr
  | .idle => .idle
  | .aIdRd => .aIdRd
  | .aRstWr => .aRstWr
  | .aRstDly => .aRstDly
  | .aPollRd => .aPollRd
  | .aPollDly => .aPollDly
  | .aCfgCtrlWr => .aCfgCtrlWr
  | .aCfgConfigWr => .aCfgConfigWr
  | .aCalRd => .aCalRd
  | .rRawRd => .rRawRd
  | .rCompT => .rCompT
  | .rCompP => .rCompP
  | .dSleepWr => .dSleepWr

theorem decode_phaseCode (p : Phase) : decode (.uop (phaseCode p)) = .ok (phaseInstr p) := by
  cases p <;> rfl

theorem phaseOfCode_phaseCode (p : Phase) : phaseOfCode (phaseCode p) = some p := by
  cases p <;> rfl

theorem fetched_of_busy {s : State} (h : s.phase ≠ .idle) : s.fetched = .uop (phaseCode s.phase) := by
  cases hp : s.phase <;> simp_all [State.fetched]

@[simp] theorem outstanding_eq_none {s : State} : s.outstanding = none ↔ s.chReq = none ∧ s.chPending = none := by
  unfold State.outstanding
  split <;> simp_all

theorem fetched_of_no_request {s : State} (ho : s.outstanding = none) (hd : s.dlyReq = none) :
    s.fetched = .uop (phaseCode s.phase) := by
  cases hp : s.phase <;> simp [State.fetched, hp, ho, hd]

/-- A step under `rst = 1` is a reset. -/
theorem step_of_rst {s : State} (h : s.rstNow = true) : step s = .next s.beginStep.hardReset := by
  simp [step, stepBlock, h]

/-- Any other step runs the word it selects. -/
theorem step_of_no_rst {s : State} (h : s.rstNow = false) : step s = runFetched s.beginStep := by
  simp [step, stepBlock, h]

/-- While the block is busy the step is the micro-operation of `PHASE`. -/
theorem step_busy {s : State} (hr : s.rstNow = false) (h : s.phase ≠ .idle) :
    step s = exec (phaseInstr s.phase) s.beginStep := by
  have hb : s.beginStep.phase ≠ .idle := h
  rw [step_of_no_rst hr, runFetched, fetched_of_busy hb, decode_phaseCode]
  rfl

/-- With no request on a port the step is the micro-operation of `PHASE`, `IDLE` among them. -/
theorem step_no_request {s : State} (hr : s.rstNow = false) (ho : s.outstanding = none) (hd : s.dlyReq = none) :
    step s = exec (phaseInstr s.phase) s.beginStep := by
  have h : s.beginStep.fetched = .uop (phaseCode s.beginStep.phase) :=
    fetched_of_no_request (s := s.beginStep) ho hd
  rw [step_of_no_rst hr, runFetched, h, decode_phaseCode]
  rfl

theorem dispatchCommand_eq_exec (op : BitVec 2) (s : State) : dispatchCommand op s = exec (decodeCmd op) s := by
  have : ∀ op : BitVec 2, op = 0#2 ∨ op = 1#2 ∨ op = 2#2 ∨ op = 3#2 := by decide
  rcases this op with rfl | rfl | rfl | rfl <;> rfl

end Sys2Proof.Machine
end

