-- ==== Sys2Proof/Laws/Exec.lean ====
section
/-! SUPPORT. One inversion lemma for each meaning: if it answers next t, then t is one of these. -/

namespace Sys2Proof.Machine

/-- The state after a read has been answered. -/
abbrev State.readDone (s : State) (addr : Addr) (a : ReadAnswer) : State := s.takeAnswer.record (.rd8 addr a)

/-- The state after a write has been answered. -/
abbrev State.writeDone (s : State) (addr : Addr) (v : Byte) (a : WriteAnswer) : State :=
  s.takeAnswer.record (.wr8 addr v a)

/-- The state after a delay has completed. -/
abbrev State.delayDone (s : State) (ms : BitVec 8) : State := s.takeDone.record (.dly ms)

theorem execAIdRd_cases {s t : State} (h : execAIdRd s = .next t) :
    (s.channelAnswer = none ∧ t = s.awaitChannel (rd8Word s.cfg.regId)) ∨
    (∃ w, s.channelAnswer = some w ∧
      ((readAnswer w = .err ∧ t = (s.readDone s.cfg.regId .err).fail .transportError) ∨
       (∃ b, readAnswer w = .byte b ∧ b ≠ s.cfg.chipId ∧ t = (s.readDone s.cfg.regId (.byte b)).fail .identityMismatch) ∨
       (readAnswer w = .byte s.cfg.chipId ∧
         t = { s.readDone s.cfg.regId (.byte s.cfg.chipId) with lifecycle := .identityChecked, phase := .aRstWr }))) := by
  unfold execAIdRd at h
  rcases memRead_cases s s.cfg.regId _ with ⟨hc, he⟩ | ⟨w, hc, he⟩ <;> rw [he] at h
  · cases h; exact .inl ⟨hc, rfl⟩
  · refine .inr ⟨w, hc, ?_⟩
    cases ha : readAnswer w with
    | err => simp only [ha] at h; cases h; exact .inl ⟨rfl, rfl⟩
    | byte b =>
      simp only [ha] at h
      split at h
      · cases h; exact .inr (.inl ⟨b, rfl, ‹_›, rfl⟩)
      · rename_i hb
        have hb : b = s.cfg.chipId := Decidable.not_not.mp hb
        subst hb
        cases h; exact .inr (.inr ⟨rfl, rfl⟩)

theorem execARstWr_cases {s t : State} (h : execARstWr s = .next t) :
    (s.channelAnswer = none ∧ t = s.awaitChannel (wr8Word s.cfg.regReset s.cfg.resetCmd)) ∨
    (∃ w, s.channelAnswer = some w ∧
      ((writeAnswer w = .err ∧ t = (s.writeDone s.cfg.regReset s.cfg.resetCmd .err).fail .transportError) ∨
       (writeAnswer w = .ok ∧
         t = { s.writeDone s.cfg.regReset s.cfg.resetCmd .ok with lifecycle := .reset, phase := .aRstDly }))) := by
  unfold execARstWr at h
  rcases memWrite_cases s s.cfg.regReset s.cfg.resetCmd _ with ⟨hc, he⟩ | ⟨w, hc, he⟩ <;> rw [he] at h
  · cases h; exact .inl ⟨hc, rfl⟩
  · refine .inr ⟨w, hc, ?_⟩
    cases ha : writeAnswer w <;> simp only [ha] at h <;> cases h
    · exact .inl ⟨rfl, rfl⟩
    · exact .inr ⟨rfl, rfl⟩

theorem execARstDly_cases {s t : State} (h : execARstDly s = .next t) :
    (s.timerDone = false ∧ t = s.awaitTimer s.cfg.resetDelayMs) ∨
    (s.timerDone = true ∧ t = { s.delayDone s.cfg.resetDelayMs with pollCnt := 0#4, phase := .aPollRd }) := by
  unfold execARstDly at h
  rcases delay_cases s s.cfg.resetDelayMs _ with ⟨hc, he⟩ | ⟨hc, he⟩ <;> rw [he] at h <;> cases h
  · exact .inl ⟨hc, rfl⟩
  · exact .inr ⟨hc, rfl⟩

theorem execAPollRd_cases {s t : State} (h : execAPollRd s = .next t) :
    (s.channelAnswer = none ∧ t = s.awaitChannel (rd8Word s.cfg.regStatus)) ∨
    (∃ w, s.channelAnswer = some w ∧
      ((readAnswer w = .err ∧ t = (s.readDone s.cfg.regStatus .err).fail .transportError) ∨
       (∃ b, readAnswer w = .byte b ∧ b &&& s.cfg.imUpdateMask = 0#8 ∧
         t = { s.readDone s.cfg.regStatus (.byte b) with phase := .aCfgCtrlWr }) ∨
       (∃ b, readAnswer w = .byte b ∧ b &&& s.cfg.imUpdateMask ≠ 0#8 ∧
         t = { s.readDone s.cfg.regStatus (.byte b) with pollCnt := s.pollCnt + 1#4, phase := .aPollDly }))) := by
  unfold execAPollRd at h
  rcases memRead_cases s s.cfg.regStatus _ with ⟨hc, he⟩ | ⟨w, hc, he⟩ <;> rw [he] at h
  · cases h; exact .inl ⟨hc, rfl⟩
  · refine .inr ⟨w, hc, ?_⟩
    cases ha : readAnswer w with
    | err => simp only [ha] at h; cases h; exact .inl ⟨rfl, rfl⟩
    | byte b =>
      simp only [ha] at h
      split at h <;> cases h
      · exact .inr (.inl ⟨b, rfl, ‹_›, rfl⟩)
      · exact .inr (.inr ⟨b, rfl, ‹_›, rfl⟩)

theorem execAPollDly_cases {s t : State} (h : execAPollDly s = .next t) :
    (s.timerDone = false ∧ t = s.awaitTimer s.cfg.pollDelayMs) ∨
    (s.timerDone = true ∧ s.pollCnt = s.cfg.pollMax ∧
      t = { (s.delayDone s.cfg.pollDelayMs).setWarn pollExhausted with phase := .aCfgCtrlWr }) ∨
    (s.timerDone = true ∧ s.pollCnt ≠ s.cfg.pollMax ∧ t = { s.delayDone s.cfg.pollDelayMs with phase := .aPollRd }) := by
  unfold execAPollDly at h
  rcases delay_cases s s.cfg.pollDelayMs _ with ⟨hc, he⟩ | ⟨hc, he⟩ <;> rw [he] at h
  · cases h; exact .inl ⟨hc, rfl⟩
  · split at h <;> cases h
    · exact .inr (.inl ⟨hc, ‹_›, rfl⟩)
    · exact .inr (.inr ⟨hc, ‹_›, rfl⟩)

theorem execACfgCtrlWr_cases {s t : State} (h : execACfgCtrlWr s = .next t) :
    (s.channelAnswer = none ∧ t = s.awaitChannel (wr8Word s.cfg.regCtrlMeas s.cfg.ctrlMeasValue)) ∨
    (∃ w, s.channelAnswer = some w ∧
      ((writeAnswer w = .err ∧ t = (s.writeDone s.cfg.regCtrlMeas s.cfg.ctrlMeasValue .err).fail .transportError) ∨
       (writeAnswer w = .ok ∧ t = { s.writeDone s.cfg.regCtrlMeas s.cfg.ctrlMeasValue .ok with phase := .aCfgConfigWr }))) := by
  unfold execACfgCtrlWr at h
  rcases memWrite_cases s s.cfg.regCtrlMeas s.cfg.ctrlMeasValue _ with ⟨hc, he⟩ | ⟨w, hc, he⟩ <;> rw [he] at h
  · cases h; exact .inl ⟨hc, rfl⟩
  · refine .inr ⟨w, hc, ?_⟩
    cases ha : writeAnswer w <;> simp only [ha] at h <;> cases h
    · exact .inl ⟨rfl, rfl⟩
    · exact .inr ⟨rfl, rfl⟩

theorem execACfgConfigWr_cases {s t : State} (h : execACfgConfigWr s = .next t) :
    (s.channelAnswer = none ∧ t = s.awaitChannel (wr8Word s.cfg.regConfig s.cfg.configValue)) ∨
    (∃ w, s.channelAnswer = some w ∧
      ((writeAnswer w = .err ∧ t = (s.writeDone s.cfg.regConfig s.cfg.configValue .err).fail .transportError) ∨
       (writeAnswer w = .ok ∧ t = { s.writeDone s.cfg.regConfig s.cfg.configValue .ok with calIdx := 0, phase := .aCalRd }))) := by
  unfold execACfgConfigWr at h
  rcases memWrite_cases s s.cfg.regConfig s.cfg.configValue _ with ⟨hc, he⟩ | ⟨w, hc, he⟩ <;> rw [he] at h
  · cases h; exact .inl ⟨hc, rfl⟩
  · refine .inr ⟨w, hc, ?_⟩
    cases ha : writeAnswer w <;> simp only [ha] at h <;> cases h
    · exact .inl ⟨rfl, rfl⟩
    · exact .inr ⟨rfl, rfl⟩

theorem execACalRd_cases {s t : State} (h : execACalRd s = .next t) :
    (s.channelAnswer = none ∧ t = s.awaitChannel (rd8Word (calAddr s.cfg s.calIdx))) ∨
    (∃ w, s.channelAnswer = some w ∧
      ((readAnswer w = .err ∧ t = (s.readDone (calAddr s.cfg s.calIdx) .err).fail .transportError) ∨
       (∃ b, readAnswer w = .byte b ∧ ∃ hi : s.calIdx.val < 23,
         t = { (s.readDone (calAddr s.cfg s.calIdx) (.byte b)).storeCalByte b with
                calIdx := ⟨s.calIdx.val + 1, by omega⟩ }) ∨
       (∃ b, readAnswer w = .byte b ∧ s.calIdx.val = 23 ∧
         t = { (s.readDone (calAddr s.cfg s.calIdx) (.byte b)).storeCalByte b with
                calValid := true, lifecycle := .ready }.respond .ok))) := by
  unfold execACalRd at h
  rcases memRead_cases s (calAddr s.cfg s.calIdx) _ with ⟨hc, he⟩ | ⟨w, hc, he⟩ <;> rw [he] at h
  · cases h; exact .inl ⟨hc, rfl⟩
  · refine .inr ⟨w, hc, ?_⟩
    cases ha : readAnswer w with
    | err => simp only [ha] at h; cases h; exact .inl ⟨rfl, rfl⟩
    | byte b =>
      simp only [ha] at h
      split at h <;> cases h
      · exact .inr (.inl ⟨b, rfl, ‹_›, rfl⟩)
      · exact .inr (.inr ⟨b, rfl, by have := s.calIdx.isLt; omega, rfl⟩)

theorem execRRawRd_cases {s t : State} (h : execRRawRd s = .next t) :
    (s.channelAnswer = none ∧ t = s.awaitChannel (rd8Word (rawAddr s.cfg s.rawIdx))) ∨
    (∃ w, s.channelAnswer = some w ∧
      ((readAnswer w = .err ∧ t = (s.readDone (rawAddr s.cfg s.rawIdx) .err).respond .transportError) ∨
       (∃ b, readAnswer w = .byte b ∧ ∃ hi : s.rawIdx.val < 5,
         t = { s.readDone (rawAddr s.cfg s.rawIdx) (.byte b) with
                rawb := s.rawb.set s.rawIdx.val b s.rawIdx.isLt, rawIdx := ⟨s.rawIdx.val + 1, by omega⟩ }) ∨
       (∃ b, readAnswer w = .byte b ∧ s.rawIdx.val = 5 ∧
         t = { s.readDone (rawAddr s.cfg s.rawIdx) (.byte b) with
                rawb := s.rawb.set s.rawIdx.val b s.rawIdx.isLt, phase := .rCompT }))) := by
  unfold execRRawRd at h
  rcases memRead_cases s (rawAddr s.cfg s.rawIdx) _ with ⟨hc, he⟩ | ⟨w, hc, he⟩ <;> rw [he] at h
  · cases h; exact .inl ⟨hc, rfl⟩
  · refine .inr ⟨w, hc, ?_⟩
    cases ha : readAnswer w with
    | err => simp only [ha] at h; cases h; exact .inl ⟨rfl, rfl⟩
    | byte b =>
      simp only [ha] at h
      split at h <;> cases h
      · exact .inr (.inl ⟨b, rfl, ‹_›, rfl⟩)
      · exact .inr (.inr ⟨b, rfl, by have := s.rawIdx.isLt; omega, rfl⟩)

theorem execRCompT_cases {s t : State} (h : execRCompT s = .next t) :
    t = { s with
      rawT := rawTemp s.cfg.readOrder s.rawb
      tFine := (compTCal (rawTemp s.cfg.readOrder s.rawb) s.cal).1
      tempNew := (compTCal (rawTemp s.cfg.readOrder s.rawb) s.cal).2
      phase := .rCompP } := by
  cases h; rfl

theorem execRCompP_cases {s t : State} (h : execRCompP s = .next t) :
    t = ({ s with rawP := rawPress s.cfg.readOrder s.rawb }.publish s.tempNew
          (compPCal (rawPress s.cfg.readOrder s.rawb) s.tFine s.cal).1).respond
        (readStatus (compPCal (rawPress s.cfg.readOrder s.rawb) s.tFine s.cal).2) := by
  cases h; rfl

theorem execDSleepWr_cases {s t : State} (h : execDSleepWr s = .next t) :
    (s.channelAnswer = none ∧ t = s.awaitChannel (wr8Word s.cfg.regCtrlMeas s.cfg.sleepValue)) ∨
    (∃ w, s.channelAnswer = some w ∧
      ((writeAnswer w = .err ∧
         t = { (s.writeDone s.cfg.regCtrlMeas s.cfg.sleepValue .err).setWarn sleepWriteFailed with
                lifecycle := .unattached, calValid := false }.respond .ok) ∨
       (writeAnswer w = .ok ∧
         t = { s.writeDone s.cfg.regCtrlMeas s.cfg.sleepValue .ok with
                lifecycle := .unattached, calValid := false }.respond .ok))) := by
  unfold execDSleepWr at h
  rcases memWrite_cases s s.cfg.regCtrlMeas s.cfg.sleepValue _ with ⟨hc, he⟩ | ⟨w, hc, he⟩ <;> rw [he] at h
  · cases h; exact .inl ⟨hc, rfl⟩
  · refine .inr ⟨w, hc, ?_⟩
    cases ha : writeAnswer w <;> simp only [ha] at h <;> cases h
    · exact .inl ⟨rfl, rfl⟩
    · exact .inr ⟨rfl, rfl⟩

theorem execNop_cases {s t : State} (h : execNop s = .next t) : t = s.clearWarn.respond .ok := by
  cases h; rfl

theorem execAttach_cases {s t : State} (h : execAttach s = .next t) :
    (s.lifecycle ≠ .unattached ∧ t = s.clearWarn.respond .badState) ∨
    (s.lifecycle = .unattached ∧ t = { s.clearWarn with phase := .aIdRd }) := by
  unfold execAttach at h
  split at h <;> cases h
  · exact .inl ⟨‹_›, rfl⟩
  · exact .inr ⟨Decidable.not_not.mp ‹_›, rfl⟩

theorem execRead_cases {s t : State} (h : execRead s = .next t) :
    (s.lifecycle ≠ .ready ∧ t = s.clearWarn.respond .notReady) ∨
    (s.lifecycle = .ready ∧ t = { s.clearWarn with rawIdx := 0, phase := .rRawRd }) := by
  unfold execRead at h
  split at h <;> cases h
  · exact .inl ⟨‹_›, rfl⟩
  · exact .inr ⟨Decidable.not_not.mp ‹_›, rfl⟩

theorem execDetach_cases {s t : State} (h : execDetach s = .next t) :
    (s.lifecycle = .ready ∧ t = { s.clearWarn with phase := .dSleepWr }) ∨
    (s.lifecycle = .failed ∧
      t = { s.clearWarn with lifecycle := .unattached, lastErr := .ok, calValid := false }.respond .ok) ∨
    (s.lifecycle ≠ .ready ∧ s.lifecycle ≠ .failed ∧ t = s.clearWarn.respond .ok) := by
  unfold execDetach at h
  split at h <;> cases h <;> simp_all

/-- What `IDLE` can do: stay, or be the command the host offers. -/
theorem execIdle_cases {s t : State} (h : execIdle s = .next t) :
    (s.commandOffered = none ∧ t = s.takeCommand) ∨
    (s.commandOffered = some 0#2 ∧ execNop s.takeCommand = .next t) ∨
    (s.commandOffered = some 1#2 ∧ execAttach s.takeCommand = .next t) ∨
    (s.commandOffered = some 2#2 ∧ execRead s.takeCommand = .next t) ∨
    (s.commandOffered = some 3#2 ∧ execDetach s.takeCommand = .next t) := by
  cases ho : s.commandOffered with
  | none => rw [execIdle_quiet ho] at h; cases h; exact .inl ⟨rfl, rfl⟩
  | some op =>
    rw [execIdle_offered ho] at h
    have : ∀ op : BitVec 2, op = 0#2 ∨ op = 1#2 ∨ op = 2#2 ∨ op = 3#2 := by decide
    rcases this op with rfl | rfl | rfl | rfl
    · exact .inr (.inl ⟨rfl, h⟩)
    · exact .inr (.inr (.inl ⟨rfl, h⟩))
    · exact .inr (.inr (.inr (.inl ⟨rfl, h⟩)))
    · exact .inr (.inr (.inr (.inr ⟨rfl, h⟩)))

end Sys2Proof.Machine
end

