-- ==== Sys2Proof/Laws/PerInstr.lean ====
section
/-! SUPPORT. The family TableRow: an encoded instruction stands on its row's port and matches its row of spec/opcode_table.json. -/

namespace Sys2Proof.Laws.TableRow

/-- The row of the table: the port, `match` and `mask`. -/
def rowMatches (p : PortWord) : Instr → Prop
  | .nop => ∃ w, p = .cmd w ∧ w.toNat &&& 0x3 = 0x0
  | .attach => ∃ w, p = .cmd w ∧ w.toNat &&& 0x3 = 0x1
  | .read => ∃ w, p = .cmd w ∧ w.toNat &&& 0x3 = 0x2
  | .detach => ∃ w, p = .cmd w ∧ w.toNat &&& 0x3 = 0x3
  | .idle => ∃ w, p = .uop w ∧ w.toNat &&& 0xF = 0x0
  | .aIdRd => ∃ w, p = .uop w ∧ w.toNat &&& 0xF = 0x1
  | .aRstWr => ∃ w, p = .uop w ∧ w.toNat &&& 0xF = 0x2
  | .aRstDly => ∃ w, p = .uop w ∧ w.toNat &&& 0xF = 0x3
  | .aPollRd => ∃ w, p = .uop w ∧ w.toNat &&& 0xF = 0x4
  | .aPollDly => ∃ w, p = .uop w ∧ w.toNat &&& 0xF = 0x5
  | .aCfgCtrlWr => ∃ w, p = .uop w ∧ w.toNat &&& 0xF = 0x6
  | .aCfgConfigWr => ∃ w, p = .uop w ∧ w.toNat &&& 0xF = 0x7
  | .aCalRd => ∃ w, p = .uop w ∧ w.toNat &&& 0xF = 0x8
  | .rRawRd => ∃ w, p = .uop w ∧ w.toNat &&& 0xF = 0x9
  | .rCompT => ∃ w, p = .uop w ∧ w.toNat &&& 0xF = 0xA
  | .rCompP => ∃ w, p = .uop w ∧ w.toNat &&& 0xF = 0xB
  | .dSleepWr => ∃ w, p = .uop w ∧ w.toNat &&& 0xF = 0xC
  | .rd8 _ => ∃ w, p = .ch w ∧ w &&& 0x100FF#17 = 0x00000#17
  | .wr8 _ _ => ∃ w, p = .ch w ∧ w &&& 0x10000#17 = 0x10000#17
  | .dly _ => ∃ w, p = .dly w ∧ w &&& 0x00#8 = 0x00#8

/-- The word of `i` matches the row of `i`. -/
def Statement (i : Instr) : Prop := rowMatches (encode i) i

theorem nop : Statement .nop := ⟨_, rfl, rfl⟩
theorem attach : Statement .attach := ⟨_, rfl, rfl⟩
theorem read : Statement .read := ⟨_, rfl, rfl⟩
theorem detach : Statement .detach := ⟨_, rfl, rfl⟩
theorem idle : Statement .idle := ⟨_, rfl, rfl⟩
theorem aIdRd : Statement .aIdRd := ⟨_, rfl, rfl⟩
theorem aRstWr : Statement .aRstWr := ⟨_, rfl, rfl⟩
theorem aRstDly : Statement .aRstDly := ⟨_, rfl, rfl⟩
theorem aPollRd : Statement .aPollRd := ⟨_, rfl, rfl⟩
theorem aPollDly : Statement .aPollDly := ⟨_, rfl, rfl⟩
theorem aCfgCtrlWr : Statement .aCfgCtrlWr := ⟨_, rfl, rfl⟩
theorem aCfgConfigWr : Statement .aCfgConfigWr := ⟨_, rfl, rfl⟩
theorem aCalRd : Statement .aCalRd := ⟨_, rfl, rfl⟩
theorem rRawRd : Statement .rRawRd := ⟨_, rfl, rfl⟩
theorem rCompT : Statement .rCompT := ⟨_, rfl, rfl⟩
theorem rCompP : Statement .rCompP := ⟨_, rfl, rfl⟩
theorem dSleepWr : Statement .dSleepWr := ⟨_, rfl, rfl⟩

theorem rd8 (addr : Addr) : Statement (.rd8 addr) := ⟨_, rfl, by revert addr; decide⟩

theorem wr8 (addr : Addr) (v : Byte) : Statement (.wr8 addr v) := by
  refine ⟨_, rfl, ?_⟩
  apply BitVec.eq_of_getLsbD_eq
  intro k hk
  by_cases h : k = 16
  · subst h
    have hw : (wr8Word addr v).getLsbD 16 = true := by
      show BitVec.getLsbD ((1#1 ++ addr) ++ v) 16 = true
      rw [BitVec.getLsbD_append, BitVec.getLsbD_append]
      simp
    rw [BitVec.getLsbD_and, hw]
    rfl
  · have : (0x10000#17).getLsbD k = false := by
      have hk' : k < 17 := hk
      interval_cases k <;> first | rfl | exact absurd rfl h
    simp [this]

theorem dly (ms : BitVec 8) : Statement (.dly ms) := ⟨_, rfl, by simp⟩

end Sys2Proof.Laws.TableRow
end

