-- ==== Sys2Proof/Laws/Ports.lean ====
section
/-! SUPPORT. What a sample of the reading ports gives. -/

namespace Sys2Proof.Machine

/-- With a reading on the ports a sample is that reading. -/
theorem sampleReading_of_reading {s : State} {r : Reading} (h : s.readingPorts = some r) : s.sampleReading = r := by
  simp only [State.sampleReading, h]

/-- Without one a sample is the step's free value of each port. -/
theorem sampleReading_of_none {s : State} (h : s.readingPorts = none) :
    s.sampleReading = ⟨Config.freeTemp s.freeCnt, Config.freePressX256 s.freeCnt, Config.freePressPa s.freeCnt⟩ := by
  simp only [State.sampleReading, h]

end Sys2Proof.Machine
end

