-- ==== Sys2Proof/Laws/Run.lean ====
section
/-! SUPPORT. Runs of several steps, taken apart. -/

namespace Sys2Proof.Machine

/-- The first step of a run. -/
theorem run_succ {s t : State} (h : step s = .next t) (k : Nat) :
    Host.Core.run Sys2Proof.core (k + 1) s = Host.Core.run Sys2Proof.core k t := by
  have hs : Sys2Proof.core.step s = .next t := h
  simp only [Host.Core.run, hs]

/-- A run that gets somewhere goes on from there. -/
theorem run_add {a : Nat} {s t : State} (h : Host.Core.run Sys2Proof.core a s = .next t) (b : Nat) :
    Host.Core.run Sys2Proof.core (a + b) s = Host.Core.run Sys2Proof.core b t := by
  induction a generalizing s with
  | zero => cases h; simp
  | succ a ih =>
    rw [Nat.succ_add]
    simp only [Host.Core.run] at h ⊢
    split at h
    · exact ih h
    all_goals cases h

end Sys2Proof.Machine
end

