-- ==== Sys2Proof/Tests/Slice0.lean ====
section
/-! SUPPORT. The model's own tests: well-formedness, words written out from the spec, one-step vectors of 95_test_vectors, and
a witness for the hypotheses of every statement. -/

namespace Sys2Proof.Tests

open Sys2Proof.Machine

/-! ### Well-formedness smoke -/

/-- 30_encoding R98, R102: the one operand value an encoding reserves. -/
theorem test_wf_refuses_zero_delay : Instr.wf (.dly 0#8) = false := by decide

theorem test_wf_accepts_shortest_delay : Instr.wf (.dly 1#8) = true := by decide

/-- 00_scope R10, one ill-formed parameter set for each check. -/
theorem test_config_wf_refuses :
    Config.wf { Config.thisHardware with pollMax := 0#4 } = false ∧
    Config.wf { Config.thisHardware with resetDelayMs := 1#8 } = false ∧
    Config.wf { Config.thisHardware with pollDelayMs := 0#8 } = false ∧
    Config.wf { Config.thisHardware with regTempLsb := 0xFC#8 } = false ∧
    Config.wf { Config.thisHardware with regTempXlsb := 0xFD#8 } = false ∧
    Config.wf { Config.thisHardware with regPressLsb := 0xF9#8 } = false ∧
    Config.wf { Config.thisHardware with regPressXlsb := 0xF7#8 } = false ∧
    Config.wf { Config.thisHardware with ctrlMeasValue := 0x26#8 } = false ∧
    Config.wf { Config.thisHardware with ctrlMeasValue := 0x00#8 } = false := by decide

theorem test_config_wf_accepts_defaults : Config.thisHardware.wf = true := by decide

/-! ### Decoding: words written out from 30_encoding R92, R94, R97, R98 -/

theorem test_decode_cmd :
    decode (.cmd 0b00#2) = .ok .nop ∧ decode (.cmd 0b01#2) = .ok .attach ∧
    decode (.cmd 0b10#2) = .ok .read ∧ decode (.cmd 0b11#2) = .ok .detach := by decide

theorem test_decode_uop :
    decode (.uop 0b0000#4) = .ok .idle ∧ decode (.uop 0b0001#4) = .ok .aIdRd ∧
    decode (.uop 0b0010#4) = .ok .aRstWr ∧ decode (.uop 0b0011#4) = .ok .aRstDly ∧
    decode (.uop 0b0100#4) = .ok .aPollRd ∧ decode (.uop 0b0101#4) = .ok .aPollDly ∧
    decode (.uop 0b0110#4) = .ok .aCfgCtrlWr ∧ decode (.uop 0b0111#4) = .ok .aCfgConfigWr ∧
    decode (.uop 0b1000#4) = .ok .aCalRd ∧ decode (.uop 0b1001#4) = .ok .rRawRd ∧
    decode (.uop 0b1010#4) = .ok .rCompT ∧ decode (.uop 0b1011#4) = .ok .rCompP ∧
    decode (.uop 0b1100#4) = .ok .dSleepWr := by decide

/-- EN2 to EN5: `w`, then `addr`, then `wdata`. -/
theorem test_decode_ch :
    decode (.ch 0b0_11010000_00000000#17) = .ok (.rd8 0xD0#8) ∧
    decode (.ch 0b0_10011111_00000000#17) = .ok (.rd8 0x9F#8) ∧
    decode (.ch 0b1_11100000_10110110#17) = .ok (.wr8 0xE0#8 0xB6#8) ∧
    decode (.ch 0b1_11110100_00100111#17) = .ok (.wr8 0xF4#8 0x27#8) ∧
    decode (.ch 0x1F500#17) = .ok (.wr8 0xF5#8 0x00#8) := by decide

theorem test_decode_dly :
    decode (.dly 0b00000010#8) = .ok (.dly 2#8) ∧ decode (.dly 0b11111111#8) = .ok (.dly 255#8) := by decide

/-- R102, EN9. -/
theorem test_decode_rejects_reserved :
    decode (.uop 13#4) = .error .reservedPhase ∧ decode (.uop 15#4) = .error .reservedPhase ∧
    decode (.ch 0x0D001#17) = .error .readCarriesData ∧ decode (.dly 0#8) = .error .zeroDelay := by decide

/-- EN6: an error ignores `rdata`. -/
theorem test_channel_answers :
    readAnswer 0x058#9 = .byte 0x58#8 ∧ readAnswer 0x100#9 = .err ∧ readAnswer 0x1FF#9 = .err ∧
    writeAnswer 0x0FF#9 = .ok ∧ writeAnswer 0x1FF#9 = .err := by decide

theorem test_decode_table_word :
    decodeTableWord 2 1 = some .attach ∧ decodeTableWord 4 1 = some .aIdRd ∧
    decodeTableWord 17 0x1E0B6 = some (.wr8 0xE0#8 0xB6#8) ∧ decodeTableWord 24 0x0D000 = some (.rd8 0xD0#8) ∧
    decodeTableWord 24 0x0D001 = none ∧ decodeTableWord 4 13 = none ∧ decodeTableWord 8 200 = some (.dly 200#8) := by decide

/-! ### Small states -/

/-- The channel delivers a byte. -/
def gives (b : Byte) : ChannelInput := .byte b

/-- The channel answers a write with Ok. -/
def accepts : ChannelInput := .answer 0x000#9

/-- The channel answers with an error. -/
def errs : ChannelInput := .answer 0x100#9

/-- The calibration words of set A (95_test_vectors section 3). -/
def calA : Vector CalWord 12 :=
  #v[0x6B70#16, 0x6743#16, 0xFC18#16, 0x8E7D#16, 0xD643#16, 0x0BD0#16, 0x0B27#16, 0x008C#16, 0xFFF9#16, 0x3C8C#16,
     0xC6F8#16, 0x1770#16]

/-- The calibration image of set A: the bytes at 0x88 to 0x9F. -/
def imageA : Vector Byte 24 :=
  #v[0x70#8, 0x6B#8, 0x43#8, 0x67#8, 0x18#8, 0xFC#8, 0x7D#8, 0x8E#8, 0x43#8, 0xD6#8, 0xD0#8, 0x0B#8,
     0x27#8, 0x0B#8, 0x8C#8, 0x00#8, 0xF9#8, 0xFF#8, 0x8C#8, 0x3C#8, 0xF8#8, 0xC6#8, 0x70#8, 0x17#8]

/-- The raw bytes of V1. -/
def rawV1 : Vector Byte 6 := #v[0x7E#8, 0xED#8, 0x00#8, 0x65#8, 0x5A#8, 0xC0#8]

/-- A block in the given position, with the registers the invariant ties to it. -/
def block (p : Phase) (l : Lifecycle) : State :=
  { State.reset with
    phase := p
    lifecycle := l
    calValid := l == .ready
    lastErr := if l = .failed then .identityMismatch else .ok
    cal := calA }

/-- The channel's next answer. -/
def answered (a : ChannelInput) (s : State) : State := { s with chIn := [a] }

/-- The command the host offers next. -/
def offered (op : BitVec 2) (s : State) : State := { s with cmdIn := [some op] }

/-- The timer completes next. -/
def timed (s : State) : State := { s with dlyIn := [true] }

/-- What one step leaves, seen through `f`. -/
def after {α : Type} (s : State) (f : State → α) : Option α :=
  match step s with
  | .next t => some (f t)
  | .fault _ => none
  | .refused _ => none

/-! ### The engine's vectors -/

/-- AR1 to AR35, the rows that tell roundings and wraps apart. -/
theorem test_arithmetic_wraps :
    add64 0x7FFFFFFFFFFFFFFF#64 1#64 = 0x8000000000000000#64 ∧
    sub64 0#64 0x8000000000000000#64 = 0x8000000000000000#64 ∧
    mul64 142834576355328#64 65535#64 = BitVec.ofInt 64 (-9086080112263131136) ∧
    shl64 3#64 63 = 0x8000000000000000#64 ∧ shl64 (BitVec.ofInt 64 (-1)) 4 = BitVec.ofInt 64 (-16) := by decide

theorem test_arithmetic_rounds :
    (asr64 (BitVec.ofInt 64 (-6076000)) 14).toInt = -371 ∧ (asr64 (BitVec.ofInt 64 (-257)) 8).toInt = -2 ∧
    (sdiv64 (BitVec.ofInt 64 (-7)) 2#64).toInt = -3 ∧ (sdiv64 7#64 (BitVec.ofInt 64 (-2))).toInt = -3 ∧
    (sdiv64 (BitVec.ofInt 64 (-2442530)) 256#64).toInt = -9541 ∧
    sdiv64 0x8000000000000000#64 (BitVec.ofInt 64 (-1)) = 0x8000000000000000#64 ∧
    (sdiv64 (BitVec.ofInt 64 (-339119538765812500)) 477709409#64).toInt = -709886664 := by decide

/-- AS9 to AS14. -/
theorem test_raw_assembly :
    raw 0x7E#8 0xED#8 0x00#8 = 519888#20 ∧ raw 0x65#8 0x5A#8 0xCF#8 = 415148#20 ∧ raw 0#8 0#8 0x0F#8 = 0#20 ∧
    (zextRaw (raw 0x80#8 0#8 0#8)).toInt = 524288 := by decide

/-- AS6 to AS8. -/
theorem test_operand_signs :
    (zextCal 0xFFFF#16).toInt = 65535 ∧ (sextCal 0xFFFF#16).toInt = -1 ∧ (sextCal (u16le 0x80#8 0x00#8)).toInt = -32768 := by
  decide

/-- Calibration words from the numbers a vector lists; those not listed are 0. -/
def calWords (w : List Int) : Vector CalWord 12 := Vector.ofFn fun i => BitVec.ofInt 16 (w.getD i.val 0)

/-- The published triple and the degenerate mark. -/
def engine (rT rP : Nat) (cal : Vector CalWord 12) : Int × Int × Int × Bool :=
  let ct := compTCal (BitVec.ofNat 20 rT) cal
  let cp := compPCal (BitVec.ofNat 20 rP) ct.1 cal
  (ct.2.toInt, cp.1.toInt, (sdiv64 cp.1 256#64).toInt, cp.2)

/-- V1 to V5, V8, V9. -/
theorem test_engine_set_A :
    engine 519888 415148 calA = (2508, 25767233, 100653, false) ∧
    engine 0 0 calA = (-14088, 33608192, 131282, false) ∧
    engine 1048575 1048575 calA = (18755, -2442530, -9541, false) ∧
    engine 519888 415148 (calA.set 3 0#16) = (2508, 0, 0, true) ∧
    engine 519888 1048575 (calA.set 6 32767#16) = (2508, -21750115, -84961, false) ∧
    engine 400000 300000 calA = (-1264, 29090514, 113634, false) ∧
    engine 600000 500000 calA = (5011, 22864454, 89314, false) := by decide

/-- V6, V7, V10 to V16. -/
theorem test_engine_extremes :
    engine 0 0 (calWords [0, 0, 0, 1]) = (0, 1677721600000, 6553600000, false) ∧
    engine 0 0 (calWords [0, 0, 0, 65535]) = (0, 25600390, 100001, false) ∧
    engine 1048575 0 (calWords ([0, 32767, 32767, 65535] ++ List.replicate 8 32767)) = (81916, 94073102, 367473, false) ∧
    engine 0 1048575 (calWords ([65535, 32767, -32768, 65535] ++ List.replicate 8 (-32768))) =
      (-81917, -183924929, -718456, false) ∧
    engine 0 0 (calWords [0, 0, 0, 65535, 0, 32767]) = (0, -25986820, -101511, false) ∧
    engine 519888 415148 (calWords []) = (0, 0, 0, true) ∧
    engine 524288 524288 (calWords (List.replicate 12 (-1))) = (0, 12800480, 50001, false) ∧
    engine 0 0 (calWords [0, 0, 0, 65535, 0, 0, 0, 0, 0, -32768]) = (0, 25076102, 97953, false) ∧
    engine 0 524288 (calWords [0, 0, 0, 32768, 0, 0, 0, 0, 0, 0, -20000, -30000]) = (0, 22388263, 87454, false) := by decide

/-- V1 meets the predicate of 43 R197; V10, V12 do not. -/
theorem test_no_overflow :
    noOverflow 519888#20 415148#20 calA = true ∧
    noOverflow 1048575#20 0#20 (calWords ([0, 32767, 32767, 65535] ++ List.replicate 8 32767)) = false ∧
    noOverflow 0#20 0#20 (calWords [0, 0, 0, 65535, 0, 32767]) = false := by decide

/-- TC1, TC2, TC8: the bounds of 43 R203 and R204 are reached. -/
theorem test_temperature_bounds :
    ((compTCal 1048575#20 (calWords [0, -32768, -32768])).1.toInt, (compTCal 1048575#20 (calWords [0, -32768, -32768])).2.toInt) =
      (-4194224, -81918) ∧
    ((compTCal 0#20 (calWords [65535, -32768, 32767])).1.toInt, (compTCal 0#20 (calWords [65535, -32768, 32767])).2.toInt) =
      (4194144, 81917) ∧
    ((compTCal 8#20 (calWords [0, 2048])).1.toInt, (compTCal 8#20 (calWords [0, 2048])).2.toInt) = (1, 0) := by decide

/-! ### One step: SQ1 to SQ27 -/

/-- SQ1. -/
theorem test_nop :
    after (offered 0#2 (block .idle .failed)) (fun t => (t.rspStatus, t.rspWarn, t.lifecycle, t.lastErr, t.trace)) =
      some (.ok, 0#2, .failed, .identityMismatch, [.rsp ⟨.ok, 0#2, none⟩]) := by decide

/-- The acceptance of 40 R124. -/
theorem test_attach_starts :
    after (offered 1#2 (block .idle .unattached)) (fun t => (t.phase, t.lifecycle, t.rspValid, t.trace)) =
      some (.aIdRd, .unattached, false, []) := by decide

/-- SQ17. -/
theorem test_attach_twice :
    after (offered 1#2 (block .idle .ready)) (fun t => (t.rspStatus, t.lifecycle, t.calValid, t.cal, t.phase)) =
      some (.badState, .ready, true, calA, .idle) := by decide

/-- The acceptance of 40 R126. -/
theorem test_read_starts :
    after { offered 2#2 (block .idle .ready) with rawIdx := 5, warn := 0b10#2 } (fun t => (t.phase, t.rawIdx, t.warn)) =
      some (.rRawRd, 0, 0#2) := by decide

/-- SQ16. -/
theorem test_read_not_ready :
    after (offered 2#2 (block .idle .failed)) (fun t => (t.rspStatus, t.lifecycle, t.lastErr, t.chReq)) =
      some (.notReady, .failed, .identityMismatch, none) := by decide

/-- 40 R128 and SQ24. -/
theorem test_detach :
    after (offered 3#2 (block .idle .ready)) (fun t => (t.phase, t.lifecycle)) = some (.dSleepWr, .ready) ∧
    after (offered 3#2 (block .idle .failed)) (fun t => (t.lifecycle, t.lastErr, t.rspStatus, t.phase)) =
      some (.unattached, .ok, .ok, .idle) := by decide

/-- SQ27 and an idle step with nothing offered. -/
theorem test_idle :
    after { offered 0#2 (block .idle .ready) with rspWarn := 0b10#2, warn := 0b10#2 } (fun t => (t.rspWarn, t.warn)) =
      some (0#2, 0#2) ∧
    after { block .idle .ready with cmdIn := [none, some 1#2] } (fun t => (t.phase, t.cmdIn, t.trace)) =
      some (.idle, [some 1#2], []) := by decide

/-- SQ2, SQ4. -/
theorem test_identity_read :
    after (answered (gives 0x58#8) (block .aIdRd .unattached)) (fun t => (t.lifecycle, t.phase, t.trace)) =
      some (.identityChecked, .aRstWr, [.rd8 0xD0#8 (.byte 0x58#8)]) ∧
    after (answered (gives 0x59#8) (block .aIdRd .unattached)) (fun t => (t.lifecycle, t.lastErr, t.rspStatus, t.phase)) =
      some (.failed, .identityMismatch, .identityMismatch, .idle) := by decide

/-- SQ5. -/
theorem test_identity_read_error :
    after (answered errs (block .aIdRd .unattached)) (fun t => (t.lifecycle, t.lastErr, t.rspStatus, t.phase)) =
      some (.failed, .transportError, .transportError, .idle) := by decide

/-- SQ6. -/
theorem test_reset_write :
    after (answered accepts (block .aRstWr .identityChecked)) (fun t => (t.lifecycle, t.phase, t.trace)) =
      some (.reset, .aRstDly, [.wr8 0xE0#8 0xB6#8 .ok]) ∧
    after (answered errs (block .aRstWr .identityChecked)) (fun t => (t.lifecycle, t.lastErr)) =
      some (.failed, .transportError) := by decide

/-- The request word of SQ6 stays on the port while the channel is silent (30_encoding R94). -/
theorem test_reset_write_waits :
    after (block .aRstWr .identityChecked) (fun t => (t.chReq, t.phase, t.trace)) =
      some (some 0x1E0B6#17, .aRstWr, []) := by decide

/-- 30_encoding R90: accepted without an answer, the request leaves the port and is awaited; unaccepted, an answer is none. -/
theorem test_request_handshake :
    after { block .aIdRd .unattached with chReq := some 0x0D000#17, chIn := [⟨true, none⟩] }
      (fun t => (t.ports.chReqValid, t.chPending, t.phase, t.trace)) = some (false, some 0x0D000#17, .aIdRd, []) ∧
    after { block .aIdRd .unattached with chIn := [⟨false, some 0x058#9⟩] } (fun t => (t.chReq, t.chPending, t.phase, t.trace)) =
      some (some 0x0D000#17, none, .aIdRd, []) ∧
    after { block .aIdRd .unattached with chPending := some 0x0D000#17, chIn := [⟨false, some 0x058#9⟩] }
      (fun t => (t.chPending, t.phase, t.trace)) = some (none, .aRstWr, [.rd8 0xD0#8 (.byte 0x58#8)]) := by decide

/-- SQ7. -/
theorem test_reset_delay :
    after (timed { block .aRstDly .reset with pollCnt := 7#4 }) (fun t => (t.pollCnt, t.phase, t.trace)) =
      some (0#4, .aPollRd, [.dly 2#8]) := by decide

/-- SQ8: only bit 0 is tested. -/
theorem test_status_read_clear :
    after (answered (gives 0xFE#8) (block .aPollRd .reset)) (fun t => (t.phase, t.pollCnt, t.trace)) =
      some (.aCfgCtrlWr, 0#4, [.rd8 0xF3#8 (.byte 0xFE#8)]) := by decide

/-- SQ9. -/
theorem test_status_read_busy :
    after (answered (gives 0x09#8) { block .aPollRd .reset with pollCnt := 9#4 }) (fun t => (t.phase, t.pollCnt)) =
      some (.aPollDly, 10#4) := by decide

/-- SQ9, SQ10. -/
theorem test_poll_delay :
    after (timed { block .aPollDly .reset with pollCnt := 10#4 }) (fun t => (t.phase, t.warn, t.trace)) =
      some (.aCfgCtrlWr, 0b10#2, [.dly 1#8]) ∧
    after (timed { block .aPollDly .reset with pollCnt := 3#4 }) (fun t => (t.phase, t.warn)) =
      some (.aPollRd, 0#2) := by decide

/-- SQ12. -/
theorem test_ctrl_write :
    after (answered accepts (block .aCfgCtrlWr .reset)) (fun t => (t.phase, t.trace)) =
      some (.aCfgConfigWr, [.wr8 0xF4#8 0x27#8 .ok]) := by decide

/-- SQ12. -/
theorem test_config_write :
    after (answered accepts { block .aCfgConfigWr .reset with calIdx := 9 }) (fun t => (t.phase, t.calIdx, t.trace)) =
      some (.aCalRd, 0, [.wr8 0xF5#8 0x00#8 .ok]) := by decide

/-- SQ13: an even byte, then an odd one. -/
theorem test_calibration_bytes :
    after (answered (gives 0x18#8) { block .aCalRd .reset with calIdx := 4 }) (fun t => (t.byteLo, t.calIdx, t.cal, t.trace)) =
      some (0x18#8, 5, calA, [.rd8 0x8C#8 (.byte 0x18#8)]) ∧
    after (answered (gives 0xFC#8) { block .aCalRd .reset with calIdx := 5, byteLo := 0x19#8 }) (fun t => (t.cal, t.calIdx)) =
      some (calA.set 2 0xFC19#16, 6) := by decide

/-- SQ14. -/
theorem test_calibration_last :
    after (answered (gives 0x17#8) { block .aCalRd .reset with calIdx := 23, byteLo := 0x71#8 })
      (fun t => (t.cal, t.calValid, t.lifecycle, t.rspStatus, t.phase)) =
      some (calA.set 11 0x1771#16, true, .ready, .ok, .idle) ∧
    after (answered errs { block .aCalRd .reset with calIdx := 23 }) (fun t => (t.lifecycle, t.calValid, t.lastErr, t.rspStatus)) =
      some (.failed, false, .transportError, .transportError) := by decide

/-- SQ19, SQ20. -/
theorem test_raw_read :
    after (answered (gives 0x7E#8) (block .rRawRd .ready)) (fun t => (t.rawb, t.rawIdx, t.phase, t.trace)) =
      some (#v[0x7E#8, 0#8, 0#8, 0#8, 0#8, 0#8], 1, .rRawRd, [.rd8 0xFA#8 (.byte 0x7E#8)]) ∧
    after (answered (gives 0xC0#8) { block .rRawRd .ready with rawIdx := 5 }) (fun t => (t.rawb, t.phase, t.trace)) =
      some (#v[0#8, 0#8, 0#8, 0#8, 0#8, 0xC0#8], .rCompT, [.rd8 0xF9#8 (.byte 0xC0#8)]) := by decide

/-- SQ21. -/
theorem test_raw_read_error :
    after (answered errs { block .rRawRd .ready with rawIdx := 3, outValid := true, tempOut := 2508#64 })
      (fun t => (t.rspStatus, t.phase, t.outValid, t.tempOut, t.lifecycle, t.lastErr)) =
      some (.transportError, .idle, true, 2508#64, .ready, .ok) := by decide

/-- P1. -/
theorem test_temperature_step :
    after { block .rCompT .ready with rawb := rawV1 } (fun t => (t.rawT, t.tFine, t.tempNew, t.phase, t.tempOut)) =
      some (519888#20, 128422#64, 2508#64, .rCompP, 0#64) := by decide

/-- P1, P3. -/
theorem test_pressure_step :
    after { block .rCompP .ready with rawb := rawV1, tFine := 128422#64, tempNew := 2508#64 }
      (fun t => (t.rawP, t.trace)) =
      some (415148#20, [.rsp ⟨.ok, 0#2, some ⟨2508#64, 25767233#64, 100653#64⟩⟩]) ∧
    after { block .rCompP .ready with rawb := rawV1, tFine := 128422#64, tempNew := 2508#64, cal := calA.set 3 0#16 }
      (fun t => (t.tempOut, t.pressX256Out, t.pressPaOut, t.rspStatus)) =
      some (2508#64, 0#64, 0#64, .degeneratePressure) := by decide

/-- SQ23. -/
theorem test_sleep_write :
    after (answered accepts (block .dSleepWr .ready)) (fun t => (t.lifecycle, t.calValid, t.rspStatus, t.rspWarn, t.trace)) =
      some (.unattached, false, .ok, 0#2, [.wr8 0xF4#8 0x00#8 .ok, .rsp ⟨.ok, 0#2, none⟩]) ∧
    after (answered errs (block .dSleepWr .ready)) (fun t => (t.lifecycle, t.calValid, t.rspStatus, t.rspWarn)) =
      some (.unattached, false, .ok, 0b01#2) := by decide

/-- 20_memory R63, R64, R75. -/
theorem test_read_alone :
    after ((answered (gives 0x58#8) State.reset).withFetchWord 24 0x0D000) (fun t => (t.trace, t.chReq)) =
      some ([.rd8 0xD0#8 (.byte 0x58#8)], none) := by decide

theorem test_write_alone :
    after ((answered accepts State.reset).withFetchWord 17 0x1F427) (fun t => (t.trace, t.chReq)) =
      some ([.wr8 0xF4#8 0x27#8 .ok], none) := by decide

theorem test_delay_alone :
    after ((timed State.reset).withFetchWord 8 200) (fun t => (t.trace, t.dlyReq)) = some ([.dly 200#8], none) := by decide

/-- SQ26. -/
theorem test_reset_in_mid_command :
    after { block .rCompP .ready with rst := [true], outValid := true, warn := 0b11#2, rspWarn := 0b01#2 }
      (fun t => (t.lifecycle, t.phase, t.calValid, t.outValid, t.rspWarn)) =
      some (.unattached, .idle, false, false, 0#2) := by decide

/-- 70_reset R262: the answer to an accepted request is ignored, one to a request on offer does not exist. -/
theorem test_late_answer :
    after { block .aIdRd .unattached with rst := [true], chPending := some 0x0D000#17, chIn := [⟨true, none⟩, gives 1#8, gives 2#8] }
      (fun t => t.chIn) = some [⟨true, none⟩, ⟨true, none⟩, gives 2#8] ∧
    after { block .aIdRd .unattached with rst := [true], chReq := some 0x0D000#17, chIn := [gives 1#8] }
      (fun t => (t.chIn, t.chReq)) = some ([gives 1#8], none) := by decide

/-- 70_reset R265: over after the one command's response; not over while a command is offered or a phase is held. -/
theorem test_run_over :
    after (offered 0#2 (block .idle .unattached)) (fun t => (t.runOver 1, t.idling, t.held)) = some (true, true, false) ∧
    (offered 0#2 (block .idle .unattached)).runOver 0 = false ∧ (block .aIdRd .unattached).runOver 0 = false ∧
    (block .aIdRd .unattached).held = true ∧ (block .aIdRd .unattached).stuck = true ∧
    State.stuck { block .aIdRd .unattached with chIn := [⟨true, none⟩, ⟨false, some 0#9⟩] } = false := by decide

/-- 10_state R50, 93 U19: before the first reading a sample is a free value, another one in the next step. -/
theorem test_no_reading_yet :
    State.reset.readingPorts = none ∧ State.reset.sampleReading.temp = Config.freeTemp 0 ∧
    after State.reset (fun t => (t.readingPorts, t.freeCnt)) = some (none, 1) := ⟨rfl, rfl, rfl⟩

/-- 30_encoding R93: a sample of a reading is that reading. -/
theorem test_reading_sampled :
    State.sampleReading { State.reset with outValid := true, tempOut := 2508#64, pressX256Out := 512#64, pressPaOut := 2#64 } =
      ⟨2508#64, 512#64, 2#64⟩ := rfl

/-! ### Witnesses: for each statement with hypotheses, a state and operands that meet all of them -/

/-- A busy block whose channel and timer answer. -/
def prompt3 (p : Phase) (l : Lifecycle) : State :=
  { block p l with chIn := [gives 0x58#8, gives 0x00#8, gives 0x00#8], dlyIn := [true, true, true] }

theorem inv_idle_ready : Invariant (offered 2#2 (block .idle .ready)) := by constructor <;> decide
theorem inv_idle_failed : Invariant (offered 3#2 (block .idle .failed)) := by constructor <;> decide
theorem inv_silent_identity : Invariant (block .aIdRd .unattached) := by constructor <;> decide
theorem inv_sleep : Invariant (prompt3 .dSleepWr .ready) := by constructor <;> decide
theorem inv_poll : Invariant (prompt3 .aPollRd .reset) := by constructor <;> decide
theorem inv_nop : Invariant (offered 0#2 (block .idle .ready)) := by constructor <;> decide

theorem prompt_sleep : (prompt3 .dSleepWr .ready).prompt 1 := by
  refine ⟨Nat.le_add_left 1 2, Nat.le_add_left 1 2, ?_, ?_, ?_⟩
  · simp [prompt3, gives, ChannelInput.byte, ChannelInput.answer]
  · simp [prompt3]
  · simp [prompt3, block, State.reset]

theorem witness_decode_encode :
    Instr.wf (.dly 1#8) = true ∧ Instr.wf (.wr8 0xFF#8 0xFF#8) = true ∧ decode (.ch 0x1FFFF#17) = .ok (.wr8 0xFF#8 0xFF#8) := by
  decide

theorem witness_reserved :
    13 ≤ (13#4).toNat ∧ 13 ≤ (15#4).toNat ∧ (0x00001#17).toNat < 65536 ∧ (0x00001#17).toNat % 256 ≠ 0 ∧
    (0x0FFFF#17).toNat < 65536 ∧ (0x0FFFF#17).toNat % 256 ≠ 0 ∧ 5 ≤ (5#3).toNat ∧ 6 ≤ (6#3).toNat := by decide

theorem witness_channel_answer : 256 ≤ (0x100#9).toNat ∧ (0x0FF#9).toNat < 256 := by decide

theorem witness_step_runs :
    (block .aIdRd .unattached).rstNow = false ∧ decode (block .aIdRd .unattached).fetched = .ok .aIdRd ∧
    (block .aIdRd .unattached).phase ≠ .idle := by decide

theorem witness_step_refuses :
    let s : State := { State.reset with chReq := some 0x0D001#17 }
    s.rstNow = false ∧ decode s.fetched = .error .readCarriesData := by decide

theorem witness_step_accepts :
    let s := offered 1#2 (block .idle .unattached)
    s.rstNow = false ∧ s.phase = .idle ∧ s.chReq = none ∧ s.chPending = none ∧ s.dlyReq = none ∧ s.commandOffered = some 1#2 := by decide

theorem witness_step_resets : State.rstNow { block .aCalRd .reset with rst := [true] } = true := by decide

theorem witness_placed_word : decodeTableWord 24 0x1FFFF = some (.wr8 0xFF#8 0xFF#8) := by decide

theorem witness_ports : (block .idle .ready).outValid = false ∧ State.outValid { block .idle .ready with outValid := true } = true := by
  decide

theorem witness_late_answer :
    let s : State := { block .aIdRd .unattached with
      rst := [true], chPending := some 0x0D000#17, chIn := [⟨true, none⟩, ⟨false, some 1#9⟩, gives 2#8] }
    s.rstNow = true ∧ s.chPending ≠ none ∧ (∀ e ∈ [(⟨true, none⟩ : ChannelInput)], e.rsp = none) ∧
    s.chIn = [⟨true, none⟩] ++ ⟨false, some 1#9⟩ :: [gives 2#8] := by decide

theorem witness_late_answer_none :
    let s : State := { block .aIdRd .unattached with
      rst := [true], chReq := some 0x0D000#17, chIn := [gives 1#8], dlyIn := [true] }
    s.rstNow = true ∧ s.chPending = none ∧ s.dlyReq = none := by decide

theorem witness_late_done :
    let s : State := { block .aRstDly .reset with rst := [true], dlyReq := some 2#8, dlyIn := [true, false] }
    s.rstNow = true ∧ s.dlyReq ≠ none ∧ s.dlyIn = List.replicate 0 false ++ true :: [false] := by decide

theorem witness_fail :
    (answered errs (block .aCalRd .reset)).channelAnswer = some 0x100#9 ∧ 256 ≤ (0x100#9).toNat ∧
    Instr.aCalRd ∈ [Instr.aIdRd, .aRstWr, .aPollRd, .aCfgCtrlWr, .aCfgConfigWr, .aCalRd] ∧
    (answered (gives 0x59#8) (block .aIdRd .unattached)).channelAnswer = some 0x059#9 ∧ (0x059#9).toNat < 256 ∧
    (0x059#9).toNat ≠ (block .aIdRd .unattached).cfg.chipId.toNat := by decide

/-- One step that gives a response and one that waits. -/
theorem witness_responds_once :
    (∃ t, step (offered 0#2 (block .idle .ready)) = .next t ∧ t.rspValid = true) ∧
    (∃ t, step (block .aIdRd .unattached) = .next t ∧ t.rspValid = false) ∧
    (offered 0#2 (block .idle .ready)).rstNow = false ∧ (block .aIdRd .unattached).rstNow = false ∧
    Invariant (offered 0#2 (block .idle .ready)) ∧ Invariant (block .aIdRd .unattached) :=
  ⟨⟨_, rfl, rfl⟩, ⟨_, rfl, rfl⟩, rfl, rfl, inv_nop, inv_silent_identity⟩

theorem witness_attach :
    (block .idle .unattached).lifecycle = .unattached ∧ (block .idle .ready).lifecycle ≠ .unattached ∧
    (block .idle .failed).lifecycle ≠ .unattached ∧ (block .aRstWr .identityChecked).lifecycle ≠ .unattached := by decide

theorem witness_read : (block .idle .ready).lifecycle = .ready ∧ (block .idle .unattached).lifecycle ≠ .ready := by decide

theorem witness_detach :
    (block .idle .ready).lifecycle = .ready ∧ (block .idle .failed).lifecycle = .failed ∧
    (block .idle .unattached).lifecycle = .unattached := by decide

theorem witness_acceptance :
    (offered 3#2 (block .idle .ready)).commandOffered = some 3#2 ∧ (block .idle .ready).commandOffered = none ∧
    (block .rCompT .ready).phase ≠ .idle ∧ (block .rCompT .ready).rstNow = false ∧
    ∃ t, step (block .rCompT .ready) = .next t :=
  ⟨by decide, by decide, by decide, by decide, _, rfl⟩

theorem witness_identity_read :
    (answered errs (block .aIdRd .unattached)).channelAnswer = some 0x100#9 ∧ readAnswer 0x100#9 = .err ∧
    (answered (gives 0x60#8) (block .aIdRd .unattached)).channelAnswer = some 0x060#9 ∧ readAnswer 0x060#9 = .byte 0x60#8 ∧
    0x60#8 ≠ (block .aIdRd .unattached).cfg.chipId ∧
    (answered (gives 0x58#8) (block .aIdRd .unattached)).channelAnswer = some 0x058#9 ∧
    readAnswer 0x058#9 = .byte (block .aIdRd .unattached).cfg.chipId := by decide

/-- For the four statements about writes. -/
theorem witness_writes :
    (answered errs (block .aRstWr .identityChecked)).channelAnswer = some 0x100#9 ∧ writeAnswer 0x100#9 = .err ∧
    (answered accepts (block .aRstWr .identityChecked)).channelAnswer = some 0x000#9 ∧ writeAnswer 0x000#9 = .ok ∧
    (answered errs (block .aCfgCtrlWr .reset)).channelAnswer = some 0x100#9 ∧
    (answered accepts (block .aCfgConfigWr .reset)).channelAnswer = some 0x000#9 ∧
    (answered errs (block .dSleepWr .ready)).channelAnswer = some 0x100#9 ∧
    (answered accepts (block .dSleepWr .ready)).channelAnswer = some 0x000#9 := by decide

theorem witness_reset_delay :
    (timed (block .aRstDly .reset)).timerDone = true ∧ (block .aRstDly .reset).timerDone = false := by decide

theorem witness_status_read :
    (answered (gives 0xFE#8) (block .aPollRd .reset)).channelAnswer = some 0x0FE#9 ∧ readAnswer 0x0FE#9 = .byte 0xFE#8 ∧
    0xFE#8 &&& (block .aPollRd .reset).cfg.imUpdateMask = 0#8 ∧
    (answered (gives 0x01#8) (block .aPollRd .reset)).channelAnswer = some 0x001#9 ∧ readAnswer 0x001#9 = .byte 0x01#8 ∧
    0x01#8 &&& (block .aPollRd .reset).cfg.imUpdateMask ≠ 0#8 ∧
    (answered errs (block .aPollRd .reset)).channelAnswer = some 0x100#9 ∧ readAnswer 0x100#9 = .err := by decide

theorem witness_poll_delay :
    (timed { block .aPollDly .reset with pollCnt := 10#4 }).timerDone = true ∧
    State.pollCnt { block .aPollDly .reset with pollCnt := 10#4 } = (block .aPollDly .reset).cfg.pollMax ∧
    State.pollCnt { block .aPollDly .reset with pollCnt := 9#4 } ≠ (block .aPollDly .reset).cfg.pollMax := by decide

/-- The three places of a calibration byte at the ends of their ranges. -/
theorem witness_calibration_read :
    (answered (gives 0x70#8) { block .aCalRd .reset with calIdx := 22 }).channelAnswer = some 0x070#9 ∧
    readAnswer 0x070#9 = .byte 0x70#8 ∧ (22 : Fin 24).val < 23 ∧ (22 : Fin 24).val % 2 = 0 ∧
    (21 : Fin 24).val < 23 ∧ (21 : Fin 24).val % 2 = 1 ∧ (23 : Fin 24).val = 23 ∧
    (answered errs (block .aCalRd .reset)).channelAnswer = some 0x100#9 ∧ readAnswer 0x100#9 = .err := by decide

theorem witness_raw_read :
    (answered (gives 0x7E#8) { block .rRawRd .ready with rawIdx := 4 }).channelAnswer = some 0x07E#9 ∧
    readAnswer 0x07E#9 = .byte 0x7E#8 ∧ (4 : Fin 6).val < 5 ∧ (5 : Fin 6).val = 5 ∧
    (answered errs (block .rRawRd .ready)).channelAnswer = some 0x100#9 ∧ readAnswer 0x100#9 = .err := by decide

/-- An ordinary and a degenerate pressure. -/
theorem witness_pressure_step :
    let s : State := { block .rCompP .ready with rawb := rawV1, tFine := 128422#64 }
    compP (zextRaw (rawPress s.cfg.readOrder s.rawb)) s.tFine (zextCal s.cal[3]) (sextCal s.cal[4]) (sextCal s.cal[5])
      (sextCal s.cal[6]) (sextCal s.cal[7]) (sextCal s.cal[8]) (sextCal s.cal[9]) (sextCal s.cal[10])
      (sextCal s.cal[11]) = (25767233#64, false) ∧
    (compPCal (rawPress s.cfg.readOrder s.rawb) s.tFine (s.cal.set 3 0#16)).2 = true := by decide

theorem witness_transactions :
    (answered (gives 0x58#8) State.reset).channelAnswer = some 0x058#9 ∧ (timed State.reset).timerDone = true := by decide

theorem witness_silent :
    (block .aIdRd .unattached).rstNow = false ∧ (block .aIdRd .unattached).phaseRequest = some 0x0D000#17 ∧
    (block .aIdRd .unattached).channelAnswer = none ∧
    (block .aRstDly .reset).rstNow = false ∧ (block .aRstDly .reset).phaseDelay = some 2#8 ∧
    (block .aRstDly .reset).timerDone = false := by decide

/-- For the statements that say what each operation does while its agent is silent, and the acceptance of the next READ. -/
theorem witness_silent_each :
    (block .aRstWr .identityChecked).channelAnswer = none ∧ (block .aPollRd .reset).channelAnswer = none ∧
    (block .aPollDly .reset).timerDone = false ∧ (block .aCfgCtrlWr .reset).channelAnswer = none ∧
    (block .aCfgConfigWr .reset).channelAnswer = none ∧ (block .aCalRd .reset).channelAnswer = none ∧
    (block .rRawRd .ready).channelAnswer = none ∧ (block .dSleepWr .ready).channelAnswer = none ∧
    (block .idle .ready).lifecycle = .ready ∧ ∃ t, exec .read (block .idle .ready) = .next t :=
  ⟨by decide, by decide, by decide, by decide, by decide, by decide, by decide, by decide, by decide, _, rfl⟩

/-- The congruence of 43 R190, the shift ranges of R193 and R194, the divisors of R195 and the bytes of R173. -/
theorem witness_engine_arithmetic :
    (∃ k : Int, (2 ^ 63 : Int) - BitVec.toInt (0x8000000000000000#64) = k * 2 ^ 64) ∧ (0 : Nat) ≤ 63 ∧ (63 : Nat) ≤ 63 ∧
    (BitVec.ofInt 64 (-1) : S64) ≠ 0#64 ∧ BitVec.toInt (0x8000000000000000#64) = -(2 ^ 63) ∧
    BitVec.toInt (BitVec.ofInt 64 (-1)) = -1 ∧ ¬ (BitVec.toInt (7#64) = -(2 ^ 63) ∧ BitVec.toInt (2#64) = -1) ∧
    (0xC0#8).toNat / 16 = (0xCF#8).toNat / 16 :=
  ⟨⟨1, by decide⟩, by decide, by decide, by decide, by decide, by decide, by decide, by decide⟩

theorem witness_read_orders :
    Config.thisHardware.readOrder = .tThenP ∧ Config.readOrder { Config.thisHardware with readOrder := .pThenT } = .pThenT := by
  decide

theorem witness_no_overflow : noOverflow 519888#20 415148#20 calA = true := by decide

/-- Both edges of 43 R212: a zero product, and `P1 = 0`. -/
theorem witness_degenerate :
    (compPCal 415148#20 128422#64 (calA.set 3 0#16)).2 = true ∧ (calA.set 3 0#16)[3] = 0#16 ∧
    (let s : State := { block .rCompP .ready with rawb := rawV1, tFine := 128422#64, cal := calA.set 3 0#16 }
     (compPCal (rawPress s.cfg.readOrder s.rawb) s.tFine s.cal).2 = true) := by decide

/-- `A_CAL_RD` changes the store, the other operations answer. -/
theorem witness_store :
    (∃ t, exec .aCalRd (answered (gives 0xFF#8) { block .aCalRd .reset with calIdx := 1 }) = .next t ∧ t.cal ≠ calA) ∧
    (∃ t, exec .rRawRd (block .rRawRd .ready) = .next t) :=
  ⟨⟨_, rfl, by decide⟩, ⟨_, rfl⟩⟩

theorem witness_outputs :
    (block .rCompP .ready).rstNow = false ∧ (∃ t, step (block .rCompP .ready) = .next t) ∧
    (block .aIdRd .unattached).phase ≠ .rCompP ∧ (∃ t, step (block .aIdRd .unattached) = .next t) ∧
    (∃ t, step { block .rCompP .ready with outValid := true } = .next t) :=
  ⟨rfl, ⟨_, rfl⟩, by decide, ⟨_, rfl⟩, ⟨_, rfl⟩⟩

/-- For the statements about every step of a state with the invariant: one that waits, one that finishes. -/
theorem witness_inv_steps :
    (Invariant (block .aIdRd .unattached) ∧ (block .aIdRd .unattached).waiting = true ∧ (block .aIdRd .unattached).rstNow = false ∧
      ∃ t, step (block .aIdRd .unattached) = .next t) ∧
    (Invariant (prompt3 .dSleepWr .ready) ∧ (prompt3 .dSleepWr .ready).waiting = false ∧ (prompt3 .dSleepWr .ready).rstNow = false ∧
      (prompt3 .dSleepWr .ready).phase ≠ .idle ∧ (prompt3 .dSleepWr .ready).lifecycle = .ready ∧
      ∃ t, step (prompt3 .dSleepWr .ready) = .next t) :=
  ⟨⟨inv_silent_identity, by decide, rfl, _, rfl⟩, inv_sleep, by decide, rfl, by decide, rfl, _, rfl⟩

/-- A command that finishes, and the four acceptances. -/
theorem witness_every_command_finishes :
    Invariant (prompt3 .dSleepWr .ready) ∧ (prompt3 .dSleepWr .ready).prompt (prompt3 .dSleepWr .ready).remaining ∧
    (∃ t, exec .nop (block .idle .ready) = .next t) ∧ (∃ t, exec .attach (block .idle .unattached) = .next t) ∧
    (∃ t, exec .read (block .idle .ready) = .next t) ∧ (∃ t, exec .detach (block .idle .ready) = .next t) :=
  ⟨inv_sleep, prompt_sleep, ⟨_, rfl⟩, ⟨_, rfl⟩, ⟨_, rfl⟩, ⟨_, rfl⟩⟩

/-- The READ of program P1. -/
theorem witness_whole_read :
    let s : State := { offered 2#2 (block .idle .ready) with chIn := rawV1.toList.map ChannelInput.byte ++ [⟨false, none⟩] }
    s.phase = .idle ∧ s.lifecycle = .ready ∧ s.chReq = none ∧ s.chPending = none ∧ s.dlyReq = none ∧ s.rst = [] ∧ s.cmdIn = some 0b10#2 :: [] ∧
    s.chIn = rawV1.toList.map ChannelInput.byte ++ [⟨false, none⟩] := by decide

/-- The first READ of program P3 fails at its second read; `k` at both ends of its range. -/
theorem witness_failed_read :
    let s0 : State := { offered 2#2 (block .idle .ready) with chIn := [errs] }
    let s5 : State := { offered 2#2 (block .idle .ready) with
      chIn := [gives 0x7E#8, gives 0xED#8, gives 0x00#8, gives 0x65#8, gives 0x5A#8, .answer 0x1FF#9] }
    (s0.phase = .idle ∧ s0.lifecycle = .ready ∧ s0.chReq = none ∧ s0.chPending = none ∧ s0.dlyReq = none ∧ s0.rst = [] ∧
      s0.cmdIn = some 0b10#2 :: [] ∧ 256 ≤ (0x100#9).toNat ∧
      s0.chIn = ([] : List Byte).map ChannelInput.byte ++ .answer 0x100#9 :: []) ∧
    (s5.phase = .idle ∧ s5.lifecycle = .ready ∧ 256 ≤ (0x1FF#9).toNat ∧
      s5.chIn = [0x7E#8, 0xED#8, 0x00#8, 0x65#8, 0x5A#8].map ChannelInput.byte ++ .answer 0x1FF#9 :: []) := by decide

/-- The calibration load of program P1. -/
theorem witness_calibration_load :
    let s : State := { block .aCalRd .reset with chIn := imageA.toList.map ChannelInput.byte }
    s.phase = .aCalRd ∧ s.calIdx = 0 ∧ s.rst = [] ∧ s.chIn = imageA.toList.map ChannelInput.byte ++ [] := by decide

/-- A block with the stuck status register of program P3. -/
def stuckPoll : State :=
  { block .aPollRd .reset with chIn := List.replicate 10 (gives 0x01#8), dlyIn := List.replicate 10 true }

theorem witness_exhausted_poll :
    Invariant stuckPoll ∧ stuckPoll.phase = .aPollRd ∧ stuckPoll.pollCnt = 0#4 ∧ stuckPoll.rst = [] ∧
    0x01#8 &&& stuckPoll.cfg.imUpdateMask ≠ 0#8 ∧
    stuckPoll.chIn = List.replicate stuckPoll.cfg.pollMax.toNat (.byte 0x01#8) ++ [] ∧
    stuckPoll.dlyIn = List.replicate stuckPoll.cfg.pollMax.toNat true ++ [] :=
  ⟨by constructor <;> decide, by decide, by decide, by decide, by decide, by decide, by decide⟩

/-- The ATTACH of program P1. -/
theorem witness_whole_attach :
    let s : State := { timed (offered 1#2 (block .idle .unattached)) with
      chIn := [gives 0x58#8, accepts, gives 0x08#8, accepts, accepts] ++ imageA.toList.map ChannelInput.byte ++ [] }
    s.phase = .idle ∧ s.lifecycle = .unattached ∧ s.chReq = none ∧ s.chPending = none ∧ s.dlyReq = none ∧ s.rst = [] ∧
    0x08#8 &&& s.cfg.imUpdateMask = 0#8 ∧ s.cmdIn = some 0b01#2 :: [] ∧ s.dlyIn = true :: [] ∧
    s.chIn = [.byte s.cfg.chipId, .answer 0#9, .byte 0x08#8, .answer 0#9, .answer 0#9] ++
      imageA.toList.map ChannelInput.byte ++ [] := by decide

/-- A request on offer, a request accepted, an answer awaited, an answer that comes in either way. -/
theorem witness_handshake :
    let silent : State := block .aIdRd .unattached
    let accepted : State := { silent with chIn := [⟨true, none⟩] }
    let awaiting : State := { silent with chPending := some 0x0D000#17, chIn := [⟨false, none⟩] }
    let ended : State := { silent with chPending := some 0x0D000#17, chIn := [⟨false, some 0x058#9⟩] }
    (Invariant silent ∧ silent.rstNow = false ∧ silent.phaseRequest = some 0x0D000#17 ∧ silent.chPending = none ∧
      silent.channelReady = false) ∧
    (Invariant accepted ∧ accepted.phaseRequest = some 0x0D000#17 ∧ accepted.chPending = none ∧
      accepted.chIn = ⟨true, none⟩ :: []) ∧
    (Invariant awaiting ∧ awaiting.chPending = some 0x0D000#17 ∧ awaiting.chIn = ⟨false, none⟩ :: []) ∧
    (Invariant ended ∧ ended.chPending = some 0x0D000#17 ∧ ended.chIn = ⟨false, some 0x058#9⟩ :: []) ∧
    (∃ t, step (offered 0#2 (block .idle .ready)) = .next t ∧ t.cmdIn ≠ (offered 0#2 (block .idle .ready)).cmdIn) := by
  refine ⟨⟨inv_silent_identity, by decide⟩, ⟨?_, by decide⟩, ⟨?_, by decide⟩, ⟨?_, by decide⟩, _, rfl, by decide⟩ <;>
    constructor <;> decide

/-- A run that is over, a state of each kind that is none, and a stuck sequencer. -/
theorem witness_finished_run :
    State.reset.runOver 0 = true ∧ (∀ r ∈ State.reset.rst, r = false) ∧
    (block .rCompT .ready).phase ≠ .idle ∧ (offered 0#2 State.reset).commandOffered ≠ none ∧ State.reset.responses ≠ 1 ∧
    Invariant (block .aIdRd .unattached) ∧ (block .aIdRd .unattached).stuck = true ∧
    (∀ r ∈ (block .aIdRd .unattached).rst, r = false) :=
  ⟨by decide, by decide, by decide, by decide, by decide, inv_silent_identity, by decide, by decide⟩

/-- The script `DETACH` from `Failed`, with a channel that answers at once. -/
def scriptState : State :=
  { offered 3#2 (block .idle .failed) with chIn := List.replicate 49 accepts, dlyIn := List.replicate 49 true }

theorem witness_script :
    Invariant scriptState ∧ scriptState.phase = .idle ∧ scriptState.cmdIn = [3#2].map some ∧
    scriptState.prompt ([3#2].length * (29 + 2 * scriptState.cfg.pollMax.toNat)) := by
  refine ⟨by constructor <;> decide, by decide, by decide, by decide, by decide, by decide, by decide, by decide⟩

end Sys2Proof.Tests
end

section
/-! SUPPORT. What one operation does to the trace, the request ports and the parameters (00_scope R7, R9, 20_memory R74). -/

namespace Sys2Proof.Machine

/-- The agent outside the block that an operation calls, if it calls one (20_memory R74, R75). -/
inductive Agent where
  | channel
  | timer
  | none

/-- The agent each operation calls (30_encoding R99). -/
def agentOf : Instr → Agent
  | .aIdRd | .aRstWr | .aPollRd | .aCfgCtrlWr | .aCfgConfigWr | .aCalRd | .rRawRd | .dSleepWr => .channel
  | .rd8 _ | .wr8 _ _ => .channel
  | .aRstDly | .aPollDly | .dly _ => .timer
  | .nop | .attach | .read | .detach | .idle | .rCompT | .rCompP => .none

/-- `t` follows `s` without a request: parameters and request ports stay, and at most one response joins the trace. -/
structure OnlyResponds (s t : State) : Prop where
  cfg : t.cfg = s.cfg
  chReq : t.chReq = s.chReq
  chPending : t.chPending = s.chPending
  dlyReq : t.dlyReq = s.dlyReq
  trace : t.trace = s.trace ∨ ∃ r, t.trace = s.trace ++ [.rsp r]

/-- All an operation can do with the agent it calls: wait for it, or take its answer, record that one event and go on without
a further request. -/
inductive Effect (s : State) : Agent → State → Prop
  | awaitChannel (req : BitVec 17) (h : s.channelAnswer = none) : Effect s .channel (s.awaitChannel req)
  | transact {t : State} {w : BitVec 9} {e : Event} (h : s.channelAnswer = some w) (he : e.isRequest = true)
      (ht : OnlyResponds (s.takeAnswer.record e) t) : Effect s .channel t
  | awaitTimer (ms : BitVec 8) (h : s.timerDone = false) : Effect s .timer (s.awaitTimer ms)
  | delay {t : State} {ms : BitVec 8} (h : s.timerDone = true) (ht : OnlyResponds (s.delayDone ms) t) : Effect s .timer t
  | alone {t : State} (ht : OnlyResponds s t) : Effect s .none t

/-! ### Each operation without a request -/

/-- The store's part of `A_CAL_RD` touches no request and records nothing. -/
theorem storeCalByte_frame (b : Byte) (s : State) :
    (s.storeCalByte b).cfg = s.cfg ∧ (s.storeCalByte b).chReq = s.chReq ∧ (s.storeCalByte b).chPending = s.chPending ∧
    (s.storeCalByte b).dlyReq = s.dlyReq ∧ (s.storeCalByte b).trace = s.trace := by
  rcases storeCalByte_cases b s with ⟨-, he⟩ | ⟨-, he⟩ <;> rw [he] <;> exact ⟨rfl, rfl, rfl, rfl, rfl⟩

theorem onlyResponds_respond (st : Status) (s : State) : OnlyResponds s (s.respond st) :=
  ⟨rfl, rfl, rfl, rfl, .inr ⟨_, rfl⟩⟩

theorem onlyResponds_fail (code : Status) (s : State) : OnlyResponds s (s.fail code) :=
  ⟨rfl, rfl, rfl, rfl, .inr ⟨_, rfl⟩⟩

theorem execAttach_onlyResponds {s t : State} (h : execAttach s = .next t) : OnlyResponds s t := by
  rcases execAttach_cases h with ⟨-, rfl⟩ | ⟨-, rfl⟩
  · exact ⟨rfl, rfl, rfl, rfl, .inr ⟨_, rfl⟩⟩
  · exact ⟨rfl, rfl, rfl, rfl, .inl rfl⟩

theorem execRead_onlyResponds {s t : State} (h : execRead s = .next t) : OnlyResponds s t := by
  rcases execRead_cases h with ⟨-, rfl⟩ | ⟨-, rfl⟩
  · exact ⟨rfl, rfl, rfl, rfl, .inr ⟨_, rfl⟩⟩
  · exact ⟨rfl, rfl, rfl, rfl, .inl rfl⟩

theorem execDetach_onlyResponds {s t : State} (h : execDetach s = .next t) : OnlyResponds s t := by
  rcases execDetach_cases h with ⟨-, rfl⟩ | ⟨-, rfl⟩ | ⟨-, -, rfl⟩
  · exact ⟨rfl, rfl, rfl, rfl, .inl rfl⟩
  · exact ⟨rfl, rfl, rfl, rfl, .inr ⟨_, rfl⟩⟩
  · exact ⟨rfl, rfl, rfl, rfl, .inr ⟨_, rfl⟩⟩

theorem execNop_onlyResponds {s t : State} (h : execNop s = .next t) : OnlyResponds s t := by
  rw [execNop_cases h]; exact ⟨rfl, rfl, rfl, rfl, .inr ⟨_, rfl⟩⟩

/-- Consuming the command port's entry changes nothing that `OnlyResponds` speaks of. -/
theorem OnlyResponds.of_takeCommand {s t : State} (h : OnlyResponds s.takeCommand t) : OnlyResponds s t :=
  ⟨h.cfg, h.chReq, h.chPending, h.dlyReq, h.trace⟩

theorem execIdle_onlyResponds {s t : State} (h : execIdle s = .next t) : OnlyResponds s t := by
  apply OnlyResponds.of_takeCommand
  rcases execIdle_cases h with ⟨-, rfl⟩ | ⟨-, hc⟩ | ⟨-, hc⟩ | ⟨-, hc⟩ | ⟨-, hc⟩
  · exact ⟨rfl, rfl, rfl, rfl, .inl rfl⟩
  · exact execNop_onlyResponds hc
  · exact execAttach_onlyResponds hc
  · exact execRead_onlyResponds hc
  · exact execDetach_onlyResponds hc

theorem execRCompT_onlyResponds {s t : State} (h : execRCompT s = .next t) : OnlyResponds s t := by
  rw [execRCompT_cases h]; exact ⟨rfl, rfl, rfl, rfl, .inl rfl⟩

theorem execRCompP_onlyResponds {s t : State} (h : execRCompP s = .next t) : OnlyResponds s t := by
  rw [execRCompP_cases h]; exact ⟨rfl, rfl, rfl, rfl, .inr ⟨_, rfl⟩⟩

/-! ### Each operation with one request -/

theorem execAIdRd_effect {s t : State} (h : execAIdRd s = .next t) : Effect s .channel t := by
  rcases execAIdRd_cases h with ⟨hc, rfl⟩ | ⟨w, hc, ⟨-, rfl⟩ | ⟨b, -, -, rfl⟩ | ⟨-, rfl⟩⟩
  · exact .awaitChannel _ hc
  · exact .transact hc rfl (onlyResponds_fail _ _)
  · exact .transact hc rfl (onlyResponds_fail _ _)
  · exact .transact hc rfl ⟨rfl, rfl, rfl, rfl, .inl rfl⟩

theorem execARstWr_effect {s t : State} (h : execARstWr s = .next t) : Effect s .channel t := by
  rcases execARstWr_cases h with ⟨hc, rfl⟩ | ⟨w, hc, ⟨-, rfl⟩ | ⟨-, rfl⟩⟩
  · exact .awaitChannel _ hc
  · exact .transact hc rfl (onlyResponds_fail _ _)
  · exact .transact hc rfl ⟨rfl, rfl, rfl, rfl, .inl rfl⟩

theorem execARstDly_effect {s t : State} (h : execARstDly s = .next t) : Effect s .timer t := by
  rcases execARstDly_cases h with ⟨hd, rfl⟩ | ⟨hd, rfl⟩
  · exact .awaitTimer _ hd
  · exact .delay hd ⟨rfl, rfl, rfl, rfl, .inl rfl⟩

theorem execAPollRd_effect {s t : State} (h : execAPollRd s = .next t) : Effect s .channel t := by
  rcases execAPollRd_cases h with ⟨hc, rfl⟩ | ⟨w, hc, ⟨-, rfl⟩ | ⟨b, -, -, rfl⟩ | ⟨b, -, -, rfl⟩⟩
  · exact .awaitChannel _ hc
  · exact .transact hc rfl (onlyResponds_fail _ _)
  · exact .transact hc rfl ⟨rfl, rfl, rfl, rfl, .inl rfl⟩
  · exact .transact hc rfl ⟨rfl, rfl, rfl, rfl, .inl rfl⟩

theorem execAPollDly_effect {s t : State} (h : execAPollDly s = .next t) : Effect s .timer t := by
  rcases execAPollDly_cases h with ⟨hd, rfl⟩ | ⟨hd, -, rfl⟩ | ⟨hd, -, rfl⟩
  · exact .awaitTimer _ hd
  · exact .delay hd ⟨rfl, rfl, rfl, rfl, .inl rfl⟩
  · exact .delay hd ⟨rfl, rfl, rfl, rfl, .inl rfl⟩

theorem execACfgCtrlWr_effect {s t : State} (h : execACfgCtrlWr s = .next t) : Effect s .channel t := by
  rcases execACfgCtrlWr_cases h with ⟨hc, rfl⟩ | ⟨w, hc, ⟨-, rfl⟩ | ⟨-, rfl⟩⟩
  · exact .awaitChannel _ hc
  · exact .transact hc rfl (onlyResponds_fail _ _)
  · exact .transact hc rfl ⟨rfl, rfl, rfl, rfl, .inl rfl⟩

theorem execACfgConfigWr_effect {s t : State} (h : execACfgConfigWr s = .next t) : Effect s .channel t := by
  rcases execACfgConfigWr_cases h with ⟨hc, rfl⟩ | ⟨w, hc, ⟨-, rfl⟩ | ⟨-, rfl⟩⟩
  · exact .awaitChannel _ hc
  · exact .transact hc rfl (onlyResponds_fail _ _)
  · exact .transact hc rfl ⟨rfl, rfl, rfl, rfl, .inl rfl⟩

theorem execACalRd_effect {s t : State} (h : execACalRd s = .next t) : Effect s .channel t := by
  have hstore (b : Byte) := storeCalByte_frame b (s.readDone (calAddr s.cfg s.calIdx) (.byte b))
  rcases execACalRd_cases h with ⟨hc, rfl⟩ | ⟨w, hc, ⟨-, rfl⟩ | ⟨b, -, -, rfl⟩ | ⟨b, -, -, rfl⟩⟩
  · exact .awaitChannel _ hc
  · exact .transact hc rfl (onlyResponds_fail _ _)
  · obtain ⟨hcfg, hreq, hpend, hdly, htr⟩ := hstore b
    exact .transact hc rfl ⟨hcfg, hreq, hpend, hdly, .inl htr⟩
  · obtain ⟨hcfg, hreq, hpend, hdly, htr⟩ := hstore b
    exact .transact hc rfl ⟨hcfg, hreq, hpend, hdly, .inr ⟨_, congrArg₂ (· ++ ·) htr rfl⟩⟩

theorem execRRawRd_effect {s t : State} (h : execRRawRd s = .next t) : Effect s .channel t := by
  rcases execRRawRd_cases h with ⟨hc, rfl⟩ | ⟨w, hc, ⟨-, rfl⟩ | ⟨b, -, -, rfl⟩ | ⟨b, -, -, rfl⟩⟩
  · exact .awaitChannel _ hc
  · exact .transact hc rfl (onlyResponds_respond _ _)
  · exact .transact hc rfl ⟨rfl, rfl, rfl, rfl, .inl rfl⟩
  · exact .transact hc rfl ⟨rfl, rfl, rfl, rfl, .inl rfl⟩

theorem execDSleepWr_effect {s t : State} (h : execDSleepWr s = .next t) : Effect s .channel t := by
  rcases execDSleepWr_cases h with ⟨hc, rfl⟩ | ⟨w, hc, ⟨-, rfl⟩ | ⟨-, rfl⟩⟩
  · exact .awaitChannel _ hc
  · exact .transact hc rfl ⟨rfl, rfl, rfl, rfl, .inr ⟨_, rfl⟩⟩
  · exact .transact hc rfl ⟨rfl, rfl, rfl, rfl, .inr ⟨_, rfl⟩⟩

theorem execRd8_effect {addr : Addr} {s t : State} (h : execRd8 addr s = .next t) : Effect s .channel t := by
  unfold execRd8 at h
  rcases memRead_cases s addr _ with ⟨hc, he⟩ | ⟨w, hc, he⟩ <;> rw [he] at h <;> cases h
  · exact .awaitChannel _ hc
  · exact .transact hc rfl ⟨rfl, rfl, rfl, rfl, .inl rfl⟩

theorem execWr8_effect {addr : Addr} {v : Byte} {s t : State} (h : execWr8 addr v s = .next t) : Effect s .channel t := by
  unfold execWr8 at h
  rcases memWrite_cases s addr v _ with ⟨hc, he⟩ | ⟨w, hc, he⟩ <;> rw [he] at h <;> cases h
  · exact .awaitChannel _ hc
  · exact .transact hc rfl ⟨rfl, rfl, rfl, rfl, .inl rfl⟩

theorem execDly_effect {ms : BitVec 8} {s t : State} (h : execDly ms s = .next t) : Effect s .timer t := by
  unfold execDly at h
  rcases delay_cases s ms _ with ⟨hd, he⟩ | ⟨hd, he⟩ <;> rw [he] at h <;> cases h
  · exact .awaitTimer _ hd
  · exact .delay hd ⟨rfl, rfl, rfl, rfl, .inl rfl⟩

/-- Every operation that answers a next state has the effect of the agent it calls. -/
theorem exec_effect {i : Instr} {s t : State} (h : exec i s = .next t) : Effect s (agentOf i) t := by
  cases i with
  | nop => exact .alone (execNop_onlyResponds h)
  | attach => exact .alone (execAttach_onlyResponds h)
  | read => exact .alone (execRead_onlyResponds h)
  | detach => exact .alone (execDetach_onlyResponds h)
  | idle => exact .alone (execIdle_onlyResponds h)
  | aIdRd => exact execAIdRd_effect h
  | aRstWr => exact execARstWr_effect h
  | aRstDly => exact execARstDly_effect h
  | aPollRd => exact execAPollRd_effect h
  | aPollDly => exact execAPollDly_effect h
  | aCfgCtrlWr => exact execACfgCtrlWr_effect h
  | aCfgConfigWr => exact execACfgConfigWr_effect h
  | aCalRd => exact execACalRd_effect h
  | rRawRd => exact execRRawRd_effect h
  | rCompT => exact .alone (execRCompT_onlyResponds h)
  | rCompP => exact .alone (execRCompP_onlyResponds h)
  | dSleepWr => exact execDSleepWr_effect h
  | rd8 addr => exact execRd8_effect h
  | wr8 addr v => exact execWr8_effect h
  | dly ms => exact execDly_effect h

/-! ### What an effect means for the parameters, the trace and the ports -/

theorem Effect.cfg_eq {a : Agent} {s t : State} (h : Effect s a t) : t.cfg = s.cfg := by
  cases h with
  | awaitChannel | awaitTimer => rfl
  | transact _ _ ht | delay _ ht | alone ht => exact ht.cfg

/-- The events `OnlyResponds` appends: none, or one response. -/
theorem OnlyResponds.appends {s t : State} (h : OnlyResponds s t) :
    ∃ evs : List Event, t.trace = s.trace ++ evs ∧ evs.filter Event.isRequest = [] ∧ evs.length ≤ 1 := by
  rcases h.trace with ht | ⟨r, ht⟩
  · exact ⟨[], by simpa using ht, rfl, by simp⟩
  · exact ⟨[.rsp r], ht, rfl, by simp⟩

/-- Behind an event that is already in the trace, `OnlyResponds` makes no second request. -/
theorem OnlyResponds.appends_behind {e : Event} {s t : State} (h : OnlyResponds (s.record e) t) :
    ∃ evs : List Event, t.trace = s.trace ++ evs ∧ (evs.filter Event.isRequest).length ≤ 1 ∧ evs.length ≤ 2 := by
  obtain ⟨evs, htr, hreq, hlen⟩ := h.appends
  refine ⟨e :: evs, by simp [htr], ?_, by simpa using hlen⟩
  rw [List.filter_cons, hreq]
  split <;> simp

/-- Whatever the agent does, one operation appends at most one request, and at most two events (00_scope R7). -/
theorem Effect.appends {a : Agent} {s t : State} (h : Effect s a t) :
    ∃ evs : List Event, t.trace = s.trace ++ evs ∧ (evs.filter Event.isRequest).length ≤ 1 ∧ evs.length ≤ 2 := by
  cases h with
  | awaitChannel | awaitTimer => exact ⟨[], by simp⟩
  | transact _ _ ht | delay _ ht => exact ht.appends_behind
  | alone ht =>
    obtain ⟨evs, htr, hreq, hlen⟩ := ht.appends
    exact ⟨evs, htr, by simp [hreq], by omega⟩

/-! ### The requests of a state with the invariant -/

theorem phaseRequest_eq_none {s : State} (h : agentOf (phaseInstr s.phase) ≠ .channel) : s.phaseRequest = none := by
  cases hp : s.phase <;> simp_all [State.phaseRequest, phaseInstr, agentOf]

theorem phaseDelay_eq_none {s : State} (h : agentOf (phaseInstr s.phase) ≠ .timer) : s.phaseDelay = none := by
  cases hp : s.phase <;> simp_all [State.phaseDelay, phaseInstr, agentOf]

/-- Outside the channel's phases nothing is on offer and nothing awaits an answer. -/
theorem Invariant.no_transaction {s : State} (inv : Invariant s) (h : agentOf (phaseInstr s.phase) ≠ .channel) :
    s.chReq = none ∧ s.chPending = none :=
  have hr := phaseRequest_eq_none h
  ⟨by simpa [hr] using inv.requestOfPhase, by simpa [hr] using inv.pendingOfPhase⟩

/-- Outside the timer's phases no delay is outstanding. -/
theorem Invariant.no_delay {s : State} (inv : Invariant s) (h : agentOf (phaseInstr s.phase) ≠ .timer) :
    s.dlyReq = none := by
  simpa [phaseDelay_eq_none h] using inv.delayOfPhase

/-- With the invariant every step without `rst` is the micro-operation of `PHASE`, in `IDLE` too. -/
theorem Invariant.step_eq_exec {s : State} (inv : Invariant s) (hr : s.rstNow = false) :
    step s = exec (phaseInstr s.phase) s.beginStep := by
  by_cases hp : s.phase = .idle
  · have hc : agentOf (phaseInstr s.phase) ≠ .channel := by rw [hp]; nofun
    have ht : agentOf (phaseInstr s.phase) ≠ .timer := by rw [hp]; nofun
    exact step_no_request hr (outstanding_eq_none.mpr (inv.no_transaction hc)) (inv.no_delay ht)
  · exact step_busy hr hp

/-! ### Waiting steps and finishing steps -/

theorem waiting_of_channel {s : State} (h : agentOf (phaseInstr s.phase) = .channel) :
    s.waiting = s.channelAnswer.isNone := by
  cases hp : s.phase <;> simp_all [State.waiting, phaseInstr, agentOf]

theorem waiting_of_timer {s : State} (h : agentOf (phaseInstr s.phase) = .timer) : s.waiting = !s.timerDone := by
  cases hp : s.phase <;> simp_all [State.waiting, phaseInstr, agentOf]

/-- Without an agent the block waits in `IDLE` only, while no command is offered. -/
theorem waiting_alone {s : State} (h : agentOf (phaseInstr s.phase) = .none) (hw : s.waiting = true) :
    s.phase = .idle ∧ s.commandOffered = none := by
  cases hp : s.phase <;> simp_all [State.waiting, phaseInstr, agentOf]

/-- A micro-operation that waits records nothing. -/
theorem trace_of_waiting {s t : State} (hw : s.waiting = true) (h : exec (phaseInstr s.phase) s.beginStep = .next t) :
    t.trace = s.trace := by
  have he := exec_effect h
  generalize ha : agentOf (phaseInstr s.phase) = a at he
  cases he with
  | awaitChannel | awaitTimer => rfl
  | transact hc =>
    have hc : s.channelAnswer = some _ := hc
    simp [waiting_of_channel ha, hc] at hw
  | delay hd =>
    have hd : s.timerDone = true := hd
    simp [waiting_of_timer ha, hd] at hw
  | alone =>
    obtain ⟨hp, ho⟩ := waiting_alone ha hw
    have hquiet := execIdle_quiet (s := s.beginStep) ho
    rw [hp] at h
    cases h.symm.trans hquiet
    rfl

/-- A micro-operation that finishes leaves nothing outstanding (20_memory R74). -/
theorem Invariant.no_request_of_finished {s t : State} (inv : Invariant s) (hw : s.waiting = false)
    (h : exec (phaseInstr s.phase) s.beginStep = .next t) : t.chReq = none ∧ t.chPending = none ∧ t.dlyReq = none := by
  have he := exec_effect h
  generalize ha : agentOf (phaseInstr s.phase) = a at he
  cases he with
  | awaitChannel _ hc =>
    have hc : s.channelAnswer = none := hc
    simp [waiting_of_channel ha, hc] at hw
  | awaitTimer _ hd =>
    have hd : s.timerDone = false := hd
    simp [waiting_of_timer ha, hd] at hw
  | transact _ _ ht =>
    exact ⟨ht.chReq, ht.chPending, ht.dlyReq.trans (inv.no_delay (by rw [ha]; nofun))⟩
  | delay _ ht =>
    obtain ⟨hreq, hpend⟩ := inv.no_transaction (by rw [ha]; nofun)
    exact ⟨ht.chReq.trans hreq, ht.chPending.trans hpend, ht.dlyReq⟩
  | alone ht =>
    obtain ⟨hreq, hpend⟩ := inv.no_transaction (by rw [ha]; nofun)
    exact ⟨ht.chReq.trans hreq, ht.chPending.trans hpend, ht.dlyReq.trans (inv.no_delay (by rw [ha]; nofun))⟩

/-! ### What a step runs -/

/-- The word a step selects does not depend on what the step does first. -/
@[simp] theorem fetched_beginStep (s : State) : s.beginStep.fetched = s.fetched := rfl

theorem runFetched_of_ok {s : State} {i : Instr} (h : decode s.fetched = .ok i) : runFetched s = exec i s := by
  simp [runFetched, h]

theorem runFetched_of_error {s : State} {e : Reject} (h : decode s.fetched = .error e) :
    runFetched s = .refused (.reservedWord e) := by
  simp [runFetched, h]

theorem runFetched_cfg {s t : State} (h : runFetched s = .next t) : t.cfg = s.cfg := by
  cases hd : decode s.fetched with
  | ok i => rw [runFetched_of_ok hd] at h; exact (exec_effect h).cfg_eq
  | error e => rw [runFetched_of_error hd] at h; cases h

/-- An idle block with no request on a port runs exactly the command the host offers (40_host_commands R121). -/
theorem step_offered {s : State} {op : BitVec 2} (hr : s.rstNow = false) (hp : s.phase = .idle)
    (ho : s.outstanding = none) (hd : s.dlyReq = none) (hc : s.commandOffered = some op) :
    step s = exec (decodeCmd op) s.beginStep.takeCommand := by
  rw [step_no_request hr ho hd, hp, ← dispatchCommand_eq_exec]
  exact execIdle_offered (s := s.beginStep) hc

end Sys2Proof.Machine
end

section
/-! The statements about the scope of a step (00_scope R7, R9). -/

namespace Sys2Proof.Machine

/-- Settles O46: a step with the invariant is one micro-operation, which calls at most one agent; the agent's answer of this
step decides whether the step waits. -/
theorem oneRequestPerStep : Obligations.OneRequestPerStep := by
  intro s t inv hr hstep
  rw [inv.step_eq_exec hr] at hstep
  obtain ⟨evs, htr, hreq, hlen⟩ := (exec_effect hstep).appends
  refine ⟨evs, htr, hreq, hlen, fun hw => ?_, fun hw => inv.no_request_of_finished hw hstep⟩
  exact List.append_right_eq_self.mp (htr.symm.trans (trace_of_waiting (s := s) hw hstep))

/-- Settles O5, by the lemmas that say what a step runs. -/
theorem stepRunsDecodedInstruction : Obligations.StepRunsDecodedInstruction := by
  refine ⟨fun s i hr hi => ?_, fun s e hr he => ?_, fun s => fetched_of_busy, fun s hq hp hd => ?_,
    fun s op hr hi hq hp hd hc => ?_, fun s => step_of_rst⟩
  · rw [step_of_no_rst hr]; exact runFetched_of_ok (by rwa [fetched_beginStep])
  · rw [step_of_no_rst hr]; exact runFetched_of_error (by rwa [fetched_beginStep])
  · exact fetched_of_no_request (outstanding_eq_none.mpr ⟨hq, hp⟩) hd
  · exact step_offered hr hi (outstanding_eq_none.mpr ⟨hq, hp⟩) hd hc

/-- Settles O47: a reset copies the parameters, and no operation's effect touches them. -/
theorem parametersNeverChange : Obligations.ParametersNeverChange := by
  intro s t h
  cases hr : s.rstNow with
  | true => rw [step_of_rst hr] at h; cases h; rfl
  | false => rw [step_of_no_rst hr] at h; exact (runFetched_cfg h).trans s.beginStep_cfg

end Sys2Proof.Machine
end

section
/-! SUPPORT. How `Invariant` is kept (10_state R22, R25, R33, R41, R45, 20_memory R74, 43 R215): its registers by one lemma for
each micro-operation, its request ports by what a waiting step and a finishing step leave on them. -/

namespace Sys2Proof.Machine

/-! ### The invariant in three parts -/

/-- The registers' part of `Invariant` that does not depend on `PHASE`. -/
def Consistent (s : State) : Prop :=
  s.cfg.wf = true ∧
  s.calValid = (s.lifecycle == .ready) ∧
  ((s.lifecycle = .failed → s.lastErr = .identityMismatch ∨ s.lastErr = .transportError) ∧
    (s.lifecycle ≠ .failed → s.lastErr = .ok)) ∧
  s.pollCnt.toNat ≤ s.cfg.pollMax.toNat ∧
  (s.outValid = true → s.pressPaOut = sdiv64 s.pressX256Out 256#64)

/-- What `PHASE` demands of the registers. -/
def FitsPhase (s : State) : Prop :=
  phaseLifecycle s.phase s.lifecycle = true ∧
  (s.phase = .aPollRd → s.pollCnt.toNat < s.cfg.pollMax.toNat) ∧
  (s.phase = .rCompP →
    s.rawT = rawTemp s.cfg.readOrder s.rawb ∧
    (s.tFine, s.tempNew) = compTCal (rawTemp s.cfg.readOrder s.rawb) s.cal)

/-- The registers' part of `Invariant`. -/
def RegistersFit (s : State) : Prop := Consistent s ∧ FitsPhase s

/-- What `PHASE` demands of the request ports. -/
def PortsFit (s : State) : Prop :=
  (s.chReq = none ∨ s.chReq = s.phaseRequest) ∧
  (s.chPending = none ∨ s.chPending = s.phaseRequest) ∧
  (s.chReq = none ∨ s.chPending = none) ∧
  (s.dlyReq = none ∨ s.dlyReq = s.phaseDelay)

theorem invariant_iff {s : State} : Invariant s ↔ RegistersFit s ∧ PortsFit s := by
  constructor
  · intro inv
    exact ⟨⟨⟨inv.cfgWf, inv.calValidIffReady, inv.lastErrOfFailed, inv.pollBound, inv.pascalOutput⟩,
      inv.lifecycleOfPhase, inv.pollReadBound, inv.sameSample⟩,
      inv.requestOfPhase, inv.pendingOfPhase, inv.oneTransaction, inv.delayOfPhase⟩
  · rintro ⟨⟨⟨hcfg, hcal, herr, hpoll, hpa⟩, hlife, hread, hsample⟩, hreq, hpend, hone, hdly⟩
    exact ⟨hcfg, hlife, hcal, herr, hpoll, hread, hreq, hpend, hone, hdly, hsample, hpa⟩

/-- A reset keeps the parameters, and every register takes a value that meets the invariant. -/
theorem invariant_hardReset {s : State} (hcfg : s.cfg.wf = true) : Invariant s.hardReset :=
  ⟨hcfg, rfl, rfl, ⟨nofun, fun _ => rfl⟩, Nat.zero_le _, nofun, .inl rfl, .inl rfl, .inl rfl, .inl rfl, nofun, nofun⟩

/-! ### The request ports -/

theorem phaseRequest_eq_some {s : State} (h : agentOf (phaseInstr s.phase) = .channel) : ∃ q, s.phaseRequest = some q := by
  cases hp : s.phase <;> simp_all [State.phaseRequest, phaseInstr, agentOf]

theorem phaseDelay_eq_some {s : State} (h : agentOf (phaseInstr s.phase) = .timer) : ∃ ms, s.phaseDelay = some ms := by
  cases hp : s.phase <;> simp_all [State.phaseDelay, phaseInstr, agentOf]

/-- A silent channel leaves the micro-operation waiting with the request of its phase (40 R133). -/
theorem exec_of_silent_channel {s : State} {q : BitVec 17} (hq : s.phaseRequest = some q) (hc : s.channelAnswer = none) :
    exec (phaseInstr s.phase) s = .next (s.awaitChannel q) := by
  unfold State.phaseRequest at hq
  split at hq <;> cases hq <;> rename_i hp <;> rw [hp]
  · show execAIdRd s = _; exact memRead_silent hc _ _
  · show execARstWr s = _; exact memWrite_silent hc _ _ _
  · show execAPollRd s = _; exact memRead_silent hc _ _
  · show execACfgCtrlWr s = _; exact memWrite_silent hc _ _ _
  · show execACfgConfigWr s = _; exact memWrite_silent hc _ _ _
  · show execACalRd s = _; exact memRead_silent hc _ _
  · show execRRawRd s = _; exact memRead_silent hc _ _
  · show execDSleepWr s = _; exact memWrite_silent hc _ _ _

/-- The same for a silent timer. -/
theorem exec_of_silent_timer {s : State} {ms : BitVec 8} (hms : s.phaseDelay = some ms) (hd : s.timerDone = false) :
    exec (phaseInstr s.phase) s = .next (s.awaitTimer ms) := by
  unfold State.phaseDelay at hms
  split at hms <;> cases hms <;> rename_i hp <;> rw [hp]
  · show execARstDly s = _; exact delay_silent hd _ _
  · show execAPollDly s = _; exact delay_silent hd _ _

/-- All a step of waiting does: keep the request of `PHASE` with the channel or the timer, or stay idle (40 R121, R133). -/
theorem exec_of_waiting {s t : State} (hw : s.waiting = true) (h : exec (phaseInstr s.phase) s = .next t) :
    (∃ q, s.phaseRequest = some q ∧ t = s.awaitChannel q) ∨
    (∃ ms, s.phaseDelay = some ms ∧ t = s.awaitTimer ms) ∨
    (s.phase = .idle ∧ t = s.takeCommand) := by
  cases ha : agentOf (phaseInstr s.phase) with
  | channel =>
    obtain ⟨q, hq⟩ := phaseRequest_eq_some ha
    have hc : s.channelAnswer = none := by simpa [waiting_of_channel ha] using hw
    cases h.symm.trans (exec_of_silent_channel hq hc)
    exact .inl ⟨q, hq, rfl⟩
  | timer =>
    obtain ⟨ms, hms⟩ := phaseDelay_eq_some ha
    have hd : s.timerDone = false := by simpa [waiting_of_timer ha] using hw
    cases h.symm.trans (exec_of_silent_timer hms hd)
    exact .inr (.inl ⟨ms, hms, rfl⟩)
  | none =>
    obtain ⟨hp, ho⟩ := waiting_alone ha hw
    rw [hp] at h
    cases h.symm.trans (execIdle_quiet ho)
    exact .inr (.inr ⟨hp, rfl⟩)

theorem PortsFit.awaitChannel {s : State} {q : BitVec 17} (h : PortsFit s) (hq : s.phaseRequest = some q) :
    PortsFit (s.awaitChannel q) := by
  obtain ⟨-, -, -, hdly⟩ := h
  rcases awaitChannel_cases q s with ⟨-, he⟩ | ⟨-, he⟩ <;> rw [he]
  · exact ⟨.inr hq.symm, .inl rfl, .inr rfl, hdly⟩
  · exact ⟨.inl rfl, .inr hq.symm, .inl rfl, hdly⟩

theorem PortsFit.awaitTimer {s : State} {ms : BitVec 8} (h : PortsFit s) (hms : s.phaseDelay = some ms) :
    PortsFit (s.awaitTimer ms) := by
  obtain ⟨hreq, hpend, hone, -⟩ := h
  exact ⟨hreq, hpend, hone, .inr hms.symm⟩

/-- A waiting step keeps the present request; a finishing one leaves none (20_memory R74). -/
theorem Invariant.exec_portsFit {s t : State} (inv : Invariant s) (h : exec (phaseInstr s.phase) s.beginStep = .next t) :
    PortsFit t := by
  cases hw : s.waiting with
  | true =>
    have hports : PortsFit s.beginStep := (invariant_iff.mp inv).2
    rcases exec_of_waiting (s := s.beginStep) hw h with ⟨q, hq, rfl⟩ | ⟨ms, hms, rfl⟩ | ⟨-, rfl⟩
    · exact hports.awaitChannel hq
    · exact hports.awaitTimer hms
    · exact hports
  | false =>
    obtain ⟨hreq, hpend, hdly⟩ := inv.no_request_of_finished hw h
    exact ⟨.inl hreq, .inl hpend, .inl hreq, .inl hdly⟩

/-! ### The registers: the shared operations

What an operation does not name it keeps, so `Consistent s` is also `Consistent` of `s` with an answer taken, an event
recorded, a warning set or another `PHASE`. -/

theorem Consistent.answered {s : State} (h : Consistent s) (e : Event) : Consistent (s.takeAnswer.record e) := h

theorem Consistent.delayed {s : State} (h : Consistent s) (ms : BitVec 8) : Consistent (s.delayDone ms) := h

theorem Consistent.warned {s : State} (h : Consistent s) (flag : BitVec 2) : Consistent (s.setWarn flag) := h

theorem Consistent.calValid_eq_false {s : State} (h : Consistent s) (hl : s.lifecycle ≠ .ready) : s.calValid = false := by
  obtain ⟨-, hcal, -⟩ := h
  rw [hcal, beq_eq_false_iff_ne]
  exact hl

theorem Consistent.lastErr_eq_ok {s : State} (h : Consistent s) (hl : s.lifecycle ≠ .failed) : s.lastErr = .ok := by
  obtain ⟨-, -, ⟨-, hok⟩, -⟩ := h
  exact hok hl

/-- Another lifecycle state with the `CAL_VALID` and `LAST_ERR` that belong to it (10_state R33, R45). -/
theorem Consistent.setLifecycle {s : State} (h : Consistent s) (l : Lifecycle) {cv : Bool} {e : Status}
    (hcv : cv = (l == .ready)) (hfailed : l = .failed → e = .identityMismatch ∨ e = .transportError)
    (hok : l ≠ .failed → e = .ok) : Consistent { s with lifecycle := l, calValid := cv, lastErr := e } := by
  obtain ⟨hcfg, -, -, hpoll, hpa⟩ := h
  exact ⟨hcfg, hcv, ⟨hfailed, hok⟩, hpoll, hpa⟩

theorem Consistent.setPollCnt {s : State} (h : Consistent s) {n : BitVec 4} (hn : n.toNat ≤ s.cfg.pollMax.toNat) :
    Consistent { s with pollCnt := n } := by
  obtain ⟨hcfg, hcal, herr, -, hpa⟩ := h
  exact ⟨hcfg, hcal, herr, hn, hpa⟩

/-- `publish` writes both pressure outputs together (10_state R41, 43 R218). -/
theorem Consistent.publish {s : State} (h : Consistent s) (temp press : S64) : Consistent (s.publish temp press) := by
  obtain ⟨hcfg, hcal, herr, hpoll, -⟩ := h
  exact ⟨hcfg, hcal, herr, hpoll, fun _ => rfl⟩

/-- `respond` ends in `IDLE`, which excludes only the transient lifecycle states (10_state R22). -/
theorem Consistent.respond {s : State} (h : Consistent s) (st : Status) (hl : phaseLifecycle .idle s.lifecycle = true) :
    RegistersFit (s.respond st) :=
  ⟨h, hl, nofun, nofun⟩

/-- A command ends with `OK` in `Unattached` or `Ready`, with the `CAL_VALID` that belongs to it. -/
theorem Consistent.finish {s : State} (h : Consistent s) (hl : s.lifecycle ≠ .failed) {l : Lifecycle} {cv : Bool}
    (hcv : cv = (l == .ready)) (hne : l ≠ .failed) (hidle : phaseLifecycle .idle l = true) :
    RegistersFit ({ s with lifecycle := l, calValid := cv }.respond .ok) :=
  (h.setLifecycle l hcv (absurd · hne) fun _ => h.lastErr_eq_ok hl).respond .ok hidle

/-- `fail` ends in `Failed` with its cause (41 R150). -/
theorem Consistent.fail {s : State} (h : Consistent s) {code : Status}
    (hcode : code = .identityMismatch ∨ code = .transportError) : RegistersFit (s.fail code) :=
  (h.setLifecycle .failed (cv := false) rfl (fun _ => hcode) (absurd rfl)).respond code rfl

theorem Consistent.fail_transport {s : State} (h : Consistent s) : RegistersFit (s.fail .transportError) := h.fail (.inr rfl)

theorem Consistent.storeCalByte {s : State} (h : Consistent s) (b : Byte) : Consistent (s.storeCalByte b) := by
  rcases storeCalByte_cases b s with ⟨-, he⟩ | ⟨-, he⟩ <;> rw [he] <;> exact h

@[simp] theorem storeCalByte_phase (b : Byte) (s : State) : (s.storeCalByte b).phase = s.phase := by
  rcases storeCalByte_cases b s with ⟨-, he⟩ | ⟨-, he⟩ <;> rw [he]

@[simp] theorem storeCalByte_lifecycle (b : Byte) (s : State) : (s.storeCalByte b).lifecycle = s.lifecycle := by
  rcases storeCalByte_cases b s with ⟨-, he⟩ | ⟨-, he⟩ <;> rw [he]

/-! ### The registers: `IDLE` and the four commands -/

theorem execAttach_registersFit {s t : State} (hc : Consistent s) (hl : phaseLifecycle .idle s.lifecycle = true)
    (h : execAttach s = .next t) : RegistersFit t := by
  rcases execAttach_cases h with ⟨-, rfl⟩ | ⟨hu, rfl⟩
  · exact hc.respond .badState hl
  · exact ⟨hc, beq_iff_eq.mpr hu, nofun, nofun⟩

theorem execRead_registersFit {s t : State} (hc : Consistent s) (hl : phaseLifecycle .idle s.lifecycle = true)
    (h : execRead s = .next t) : RegistersFit t := by
  rcases execRead_cases h with ⟨-, rfl⟩ | ⟨hready, rfl⟩
  · exact hc.respond .notReady hl
  · exact ⟨hc, beq_iff_eq.mpr hready, nofun, nofun⟩

theorem execDetach_registersFit {s t : State} (hc : Consistent s) (hl : phaseLifecycle .idle s.lifecycle = true)
    (h : execDetach s = .next t) : RegistersFit t := by
  rcases execDetach_cases h with ⟨hready, rfl⟩ | ⟨-, rfl⟩ | ⟨-, -, rfl⟩
  · exact ⟨hc, beq_iff_eq.mpr hready, nofun, nofun⟩
  · exact (hc.setLifecycle .unattached (cv := false) rfl nofun fun _ => rfl).respond .ok rfl
  · exact hc.respond .ok hl

theorem execIdle_registersFit {s t : State} (hr : RegistersFit s) (hl : phaseLifecycle .idle s.lifecycle = true)
    (h : execIdle s = .next t) : RegistersFit t := by
  have ⟨(hc : Consistent s.takeCommand), _⟩ := hr
  rcases execIdle_cases h with ⟨-, rfl⟩ | ⟨-, he⟩ | ⟨-, he⟩ | ⟨-, he⟩ | ⟨-, he⟩
  · exact hr
  · rw [execNop_cases he]; exact hc.respond .ok hl
  · exact execAttach_registersFit hc hl he
  · exact execRead_registersFit hc hl he
  · exact execDetach_registersFit hc hl he

/-! ### The registers: the micro-operations of ATTACH -/

theorem execAIdRd_registersFit {s t : State} (hr : RegistersFit s) (hl : s.lifecycle = .unattached)
    (h : execAIdRd s = .next t) : RegistersFit t := by
  have ⟨hc, _⟩ := hr
  rcases execAIdRd_cases h with ⟨-, rfl⟩ | ⟨w, -, ⟨-, rfl⟩ | ⟨b, -, -, rfl⟩ | ⟨-, rfl⟩⟩
  · exact hr
  · exact (hc.answered _).fail_transport
  · exact (hc.answered _).fail (.inl rfl)
  · have hcv := hc.calValid_eq_false (by simp [hl])
    have hok := hc.lastErr_eq_ok (by simp [hl])
    exact ⟨(hc.answered _).setLifecycle .identityChecked hcv nofun fun _ => hok, rfl, nofun, nofun⟩

theorem execARstWr_registersFit {s t : State} (hr : RegistersFit s) (hl : s.lifecycle = .identityChecked)
    (h : execARstWr s = .next t) : RegistersFit t := by
  have ⟨hc, _⟩ := hr
  rcases execARstWr_cases h with ⟨-, rfl⟩ | ⟨w, -, ⟨-, rfl⟩ | ⟨-, rfl⟩⟩
  · exact hr
  · exact (hc.answered _).fail_transport
  · have hcv := hc.calValid_eq_false (by simp [hl])
    have hok := hc.lastErr_eq_ok (by simp [hl])
    exact ⟨(hc.answered _).setLifecycle .reset hcv nofun fun _ => hok, rfl, nofun, nofun⟩

/-- `POLL_MAX` is at least 1 (00_scope R10), so the first status read is below it. -/
theorem execARstDly_registersFit {s t : State} (hr : RegistersFit s) (hl : s.lifecycle = .reset)
    (h : execARstDly s = .next t) : RegistersFit t := by
  have ⟨hc, _⟩ := hr
  rcases execARstDly_cases h with ⟨-, rfl⟩ | ⟨-, rfl⟩
  · exact hr
  · have hmax : 0 < s.cfg.pollMax.toNat := by
      obtain ⟨hcfg, -⟩ := hc
      simp only [Config.wf, Bool.and_eq_true, decide_eq_true_eq] at hcfg
      omega
    exact ⟨hc.setPollCnt (Nat.zero_le _), beq_iff_eq.mpr hl, fun _ => hmax, nofun⟩

/-- A status read below `POLL_MAX` may count one more poll (41 R144). -/
theorem execAPollRd_registersFit {s t : State} (hr : RegistersFit s) (hp : s.phase = .aPollRd) (hl : s.lifecycle = .reset)
    (h : execAPollRd s = .next t) : RegistersFit t := by
  have ⟨hc, _, hread, _⟩ := hr
  rcases execAPollRd_cases h with ⟨-, rfl⟩ | ⟨w, -, ⟨-, rfl⟩ | ⟨b, -, -, rfl⟩ | ⟨b, -, -, rfl⟩⟩
  · exact hr
  · exact (hc.answered _).fail_transport
  · exact ⟨hc, beq_iff_eq.mpr hl, nofun, nofun⟩
  · have hcount : (s.pollCnt + 1#4).toNat ≤ s.cfg.pollMax.toNat := by
      have := hread hp
      bv_omega
    exact ⟨hc.setPollCnt hcount, beq_iff_eq.mpr hl, nofun, nofun⟩

/-- Another status read follows only while `POLL_CNT` is not `POLL_MAX` (41 R145). -/
theorem execAPollDly_registersFit {s t : State} (hr : RegistersFit s) (hl : s.lifecycle = .reset)
    (h : execAPollDly s = .next t) : RegistersFit t := by
  have ⟨hc, _⟩ := hr
  have ⟨_, _, _, hpoll, _⟩ := hc
  rcases execAPollDly_cases h with ⟨-, rfl⟩ | ⟨-, -, rfl⟩ | ⟨-, hne, rfl⟩
  · exact hr
  · exact ⟨(hc.delayed s.cfg.pollDelayMs).warned pollExhausted, beq_iff_eq.mpr hl, nofun, nofun⟩
  · have hlt : s.pollCnt.toNat < s.cfg.pollMax.toNat := by bv_omega
    exact ⟨hc, beq_iff_eq.mpr hl, fun _ => hlt, nofun⟩

theorem execACfgCtrlWr_registersFit {s t : State} (hr : RegistersFit s) (hl : s.lifecycle = .reset)
    (h : execACfgCtrlWr s = .next t) : RegistersFit t := by
  have ⟨hc, _⟩ := hr
  rcases execACfgCtrlWr_cases h with ⟨-, rfl⟩ | ⟨w, -, ⟨-, rfl⟩ | ⟨-, rfl⟩⟩
  · exact hr
  · exact (hc.answered _).fail_transport
  · exact ⟨hc, beq_iff_eq.mpr hl, nofun, nofun⟩

theorem execACfgConfigWr_registersFit {s t : State} (hr : RegistersFit s) (hl : s.lifecycle = .reset)
    (h : execACfgConfigWr s = .next t) : RegistersFit t := by
  have ⟨hc, _⟩ := hr
  rcases execACfgConfigWr_cases h with ⟨-, rfl⟩ | ⟨w, -, ⟨-, rfl⟩ | ⟨-, rfl⟩⟩
  · exact hr
  · exact (hc.answered _).fail_transport
  · exact ⟨hc, beq_iff_eq.mpr hl, nofun, nofun⟩

theorem execACalRd_registersFit {s t : State} (hr : RegistersFit s) (hp : s.phase = .aCalRd) (hl : s.lifecycle = .reset)
    (h : execACalRd s = .next t) : RegistersFit t := by
  have ⟨hc, _⟩ := hr
  have hstore (b : Byte) : Consistent ((s.readDone (calAddr s.cfg s.calIdx) (.byte b)).storeCalByte b) :=
    (hc.answered _).storeCalByte b
  rcases execACalRd_cases h with ⟨-, rfl⟩ | ⟨w, -, ⟨-, rfl⟩ | ⟨b, -, -, rfl⟩ | ⟨b, -, -, rfl⟩⟩
  · exact hr
  · exact (hc.answered _).fail_transport
  · exact ⟨hstore b, by simp [hp, hl, phaseLifecycle], by simp [hp], by simp [hp]⟩
  · exact (hstore b).finish (by simp [hl]) rfl nofun rfl

/-! ### The registers: the micro-operations of READ and DETACH -/

theorem execRRawRd_registersFit {s t : State} (hr : RegistersFit s) (hp : s.phase = .rRawRd) (hl : s.lifecycle = .ready)
    (h : execRRawRd s = .next t) : RegistersFit t := by
  have ⟨hc, _⟩ := hr
  rcases execRRawRd_cases h with ⟨-, rfl⟩ | ⟨w, -, ⟨-, rfl⟩ | ⟨b, -, -, rfl⟩ | ⟨b, -, -, rfl⟩⟩
  · exact hr
  · exact (hc.answered _).respond .transportError (by simp [hl, phaseLifecycle])
  · exact ⟨hc, by simp [hp, hl, phaseLifecycle], by simp [hp], by simp [hp]⟩
  · exact ⟨hc, beq_iff_eq.mpr hl, nofun, nofun⟩

/-- What `R_COMP_P` will use comes from the bytes `R_COMP_T` reads (43 R215). -/
theorem execRCompT_registersFit {s t : State} (hc : Consistent s) (hl : s.lifecycle = .ready)
    (h : execRCompT s = .next t) : RegistersFit t := by
  rw [execRCompT_cases h]
  exact ⟨hc, beq_iff_eq.mpr hl, nofun, fun _ => ⟨rfl, rfl⟩⟩

theorem execRCompP_registersFit {s t : State} (hc : Consistent s) (hl : s.lifecycle = .ready)
    (h : execRCompP s = .next t) : RegistersFit t := by
  rw [execRCompP_cases h]
  have hraw : Consistent { s with rawP := rawPress s.cfg.readOrder s.rawb } := hc
  exact (hraw.publish _ _).respond _ (by simp [hl, phaseLifecycle])

theorem execDSleepWr_registersFit {s t : State} (hr : RegistersFit s) (hl : s.lifecycle = .ready)
    (h : execDSleepWr s = .next t) : RegistersFit t := by
  have ⟨hc, _⟩ := hr
  have hne : s.lifecycle ≠ .failed := by simp [hl]
  rcases execDSleepWr_cases h with ⟨-, rfl⟩ | ⟨w, -, ⟨-, rfl⟩ | ⟨-, rfl⟩⟩
  · exact hr
  · exact ((hc.answered _).warned _).finish hne rfl nofun rfl
  · exact (hc.answered _).finish hne rfl nofun rfl

/-! ### Every step -/

theorem exec_registersFit {s t : State} (hr : RegistersFit s) (h : exec (phaseInstr s.phase) s = .next t) :
    RegistersFit t := by
  have ⟨hc, hl, _⟩ := hr
  cases hp : s.phase <;> rw [hp] at h hl
  case idle => exact execIdle_registersFit hr hl h
  case aIdRd => exact execAIdRd_registersFit hr (beq_iff_eq.mp hl) h
  case aRstWr => exact execARstWr_registersFit hr (beq_iff_eq.mp hl) h
  case aRstDly => exact execARstDly_registersFit hr (beq_iff_eq.mp hl) h
  case aPollRd => exact execAPollRd_registersFit hr hp (beq_iff_eq.mp hl) h
  case aPollDly => exact execAPollDly_registersFit hr (beq_iff_eq.mp hl) h
  case aCfgCtrlWr => exact execACfgCtrlWr_registersFit hr (beq_iff_eq.mp hl) h
  case aCfgConfigWr => exact execACfgConfigWr_registersFit hr (beq_iff_eq.mp hl) h
  case aCalRd => exact execACalRd_registersFit hr hp (beq_iff_eq.mp hl) h
  case rRawRd => exact execRRawRd_registersFit hr hp (beq_iff_eq.mp hl) h
  case rCompT => exact execRCompT_registersFit hc (beq_iff_eq.mp hl) h
  case rCompP => exact execRCompP_registersFit hc (beq_iff_eq.mp hl) h
  case dSleepWr => exact execDSleepWr_registersFit hr (beq_iff_eq.mp hl) h

theorem Invariant.of_step {s t : State} (inv : Invariant s) (h : step s = .next t) : Invariant t := by
  cases hr : s.rstNow with
  | true => rw [step_of_rst hr] at h; cases h; exact invariant_hardReset inv.cfgWf
  | false =>
    rw [inv.step_eq_exec hr] at h
    have hregs : RegistersFit s.beginStep := (invariant_iff.mp inv).1
    exact invariant_iff.mpr ⟨exec_registersFit hregs h, inv.exec_portsFit h⟩

end Sys2Proof.Machine
end

section
/-! SUPPORT. What each operation does with the calibration store and with the outputs (10_state R32, R42). -/

namespace Sys2Proof.Machine

/-! ### Operations on a state with another calibration store -/

/-- The state with another calibration store. -/
abbrev State.withCal (c : Vector CalWord 12) (s : State) : State := { s with cal := c }

/-- What a meaning answers, with another calibration store. -/
def answerWithCal (c : Vector CalWord 12) : Result → Result
  | .next s => .next (s.withCal c)
  | .fault r => .fault r
  | .refused r => .refused r

/-- A read does not look at the store: it depends on it no more than what follows the answer. -/
theorem memRead_withCal (c : Vector CalWord 12) (s : State) (addr : Addr) {k k' : ReadAnswer → State → Result}
    (hk : ∀ r s1, k' r (s1.withCal c) = answerWithCal c (k r s1)) :
    (s.withCal c).memRead addr k' = answerWithCal c (s.memRead addr k) := by
  rcases memRead_cases s addr k with ⟨hc, he⟩ | ⟨w, hc, he⟩ <;> rw [he]
  · exact memRead_silent (s := s.withCal c) hc addr k'
  · rw [← hk]; exact memRead_answered (s := s.withCal c) hc addr k'

theorem memWrite_withCal (c : Vector CalWord 12) (s : State) (addr : Addr) (v : Byte) {k k' : WriteAnswer → State → Result}
    (hk : ∀ r s1, k' r (s1.withCal c) = answerWithCal c (k r s1)) :
    (s.withCal c).memWrite addr v k' = answerWithCal c (s.memWrite addr v k) := by
  rcases memWrite_cases s addr v k with ⟨hc, he⟩ | ⟨w, hc, he⟩ <;> rw [he]
  · exact memWrite_silent (s := s.withCal c) hc addr v k'
  · rw [← hk]; exact memWrite_answered (s := s.withCal c) hc addr v k'

theorem delay_withCal (c : Vector CalWord 12) (s : State) (ms : BitVec 8) {k k' : State → Result}
    (hk : ∀ s1, k' (s1.withCal c) = answerWithCal c (k s1)) :
    (s.withCal c).delay ms k' = answerWithCal c (s.delay ms k) := by
  rcases delay_cases s ms k with ⟨hd, he⟩ | ⟨hd, he⟩ <;> rw [he]
  · exact delay_silent (s := s.withCal c) hd ms k'
  · rw [← hk]; exact delay_done (s := s.withCal c) hd ms k'

theorem execAttach_withCal (c : Vector CalWord 12) (s : State) :
    execAttach (s.withCal c) = answerWithCal c (execAttach s) := by
  unfold execAttach
  rw [apply_ite (answerWithCal c)]
  rfl

theorem execRead_withCal (c : Vector CalWord 12) (s : State) : execRead (s.withCal c) = answerWithCal c (execRead s) := by
  unfold execRead
  rw [apply_ite (answerWithCal c)]
  rfl

theorem execDetach_withCal (c : Vector CalWord 12) (s : State) :
    execDetach (s.withCal c) = answerWithCal c (execDetach s) := by
  have hl : (s.withCal c).lifecycle = s.lifecycle := rfl
  unfold execDetach
  rw [hl]
  cases s.lifecycle <;> rfl

theorem execIdle_withCal (c : Vector CalWord 12) (s : State) : execIdle (s.withCal c) = answerWithCal c (execIdle s) := by
  cases ho : s.commandOffered with
  | none => rw [execIdle_quiet ho]; exact execIdle_quiet (s := s.withCal c) ho
  | some op =>
    rw [execIdle_offered ho, execIdle_offered (s := s.withCal c) ho]
    have : ∀ op : BitVec 2, op = 0#2 ∨ op = 1#2 ∨ op = 2#2 ∨ op = 3#2 := by decide
    rcases this op with rfl | rfl | rfl | rfl
    · rfl
    · exact execAttach_withCal c s.takeCommand
    · exact execRead_withCal c s.takeCommand
    · exact execDetach_withCal c s.takeCommand

theorem execAIdRd_withCal (c : Vector CalWord 12) (s : State) :
    execAIdRd (s.withCal c) = answerWithCal c (execAIdRd s) := by
  unfold execAIdRd
  refine memRead_withCal c s _ fun r s1 => ?_
  cases r with
  | err => rfl
  | byte b => rw [apply_ite (answerWithCal c)]; rfl

theorem execAPollRd_withCal (c : Vector CalWord 12) (s : State) :
    execAPollRd (s.withCal c) = answerWithCal c (execAPollRd s) := by
  unfold execAPollRd
  refine memRead_withCal c s _ fun r s1 => ?_
  cases r with
  | err => rfl
  | byte b => rw [apply_ite (answerWithCal c)]; rfl

theorem execAPollDly_withCal (c : Vector CalWord 12) (s : State) :
    execAPollDly (s.withCal c) = answerWithCal c (execAPollDly s) := by
  unfold execAPollDly
  refine delay_withCal c s _ fun s1 => ?_
  rw [apply_ite (answerWithCal c)]
  rfl

theorem execRRawRd_withCal (c : Vector CalWord 12) (s : State) :
    execRRawRd (s.withCal c) = answerWithCal c (execRRawRd s) := by
  unfold execRRawRd
  refine memRead_withCal c s _ fun r s1 => ?_
  cases r with
  | err => rfl
  | byte b => dsimp only; rw [apply_dite (answerWithCal c)]; rfl

/-- Whatever the store holds, an operation other than its writer and its readers does the same and keeps it. -/
theorem exec_withCal {i : Instr} (hcal : i ≠ .aCalRd) (ht : i ≠ .rCompT) (hp : i ≠ .rCompP) (c : Vector CalWord 12)
    (s : State) : exec i (s.withCal c) = answerWithCal c (exec i s) := by
  cases i with
  | nop => rfl
  | attach => exact execAttach_withCal c s
  | read => exact execRead_withCal c s
  | detach => exact execDetach_withCal c s
  | idle => exact execIdle_withCal c s
  | aIdRd => exact execAIdRd_withCal c s
  | aRstWr => unfold exec; exact memWrite_withCal c s _ _ fun r s1 => by cases r <;> rfl
  | aRstDly => unfold exec; exact delay_withCal c s _ fun s1 => rfl
  | aPollRd => exact execAPollRd_withCal c s
  | aPollDly => exact execAPollDly_withCal c s
  | aCfgCtrlWr => unfold exec; exact memWrite_withCal c s _ _ fun r s1 => by cases r <;> rfl
  | aCfgConfigWr => unfold exec; exact memWrite_withCal c s _ _ fun r s1 => by cases r <;> rfl
  | aCalRd => exact absurd rfl hcal
  | rRawRd => exact execRRawRd_withCal c s
  | rCompT => exact absurd rfl ht
  | rCompP => exact absurd rfl hp
  | dSleepWr => unfold exec; exact memWrite_withCal c s _ _ fun r s1 => by cases r <;> rfl
  | rd8 addr => exact memRead_withCal c s addr (k := fun _ s1 => .next s1) fun _ _ => rfl
  | wr8 addr v => exact memWrite_withCal c s addr v (k := fun _ s1 => .next s1) fun _ _ => rfl
  | dly ms => exact delay_withCal c s ms (k := .next) fun _ => rfl

/-! ### `A_CAL_RD` -/

theorem execACalRd_silent {s : State} (hc : s.channelAnswer = none) :
    execACalRd s = .next (s.awaitChannel (rd8Word (calAddr s.cfg s.calIdx))) :=
  memRead_silent hc _ _

theorem execACalRd_err {s : State} {w : BitVec 9} (hc : s.channelAnswer = some w) (ha : readAnswer w = .err) :
    execACalRd s = .next ((s.readDone (calAddr s.cfg s.calIdx) .err).fail .transportError) := by
  unfold execACalRd
  rw [memRead_answered hc, ha]

/-- A calibration byte that is not the last (41 R149). -/
theorem execACalRd_byte {s : State} {w : BitVec 9} {b : Byte} (hc : s.channelAnswer = some w)
    (ha : readAnswer w = .byte b) (hi : s.calIdx.val < 23) :
    execACalRd s = .next { (s.readDone (calAddr s.cfg s.calIdx) (.byte b)).storeCalByte b with
      calIdx := ⟨s.calIdx.val + 1, by omega⟩ } := by
  unfold execACalRd
  rw [memRead_answered hc, ha]
  exact dif_pos hi

/-- The last calibration byte (41 R149). -/
theorem execACalRd_lastByte {s : State} {w : BitVec 9} {b : Byte} (hc : s.channelAnswer = some w)
    (ha : readAnswer w = .byte b) (hi : s.calIdx.val = 23) :
    execACalRd s = .next ({ (s.readDone (calAddr s.cfg s.calIdx) (.byte b)).storeCalByte b with
      calValid := true, lifecycle := .ready }.respond .ok) := by
  unfold execACalRd
  rw [memRead_answered hc, ha]
  exact dif_neg (by omega)

/-- A calibration byte reaches one word of the store, whatever the others hold. -/
theorem storeCalByte_withCal (c : Vector CalWord 12) (b : Byte) (s : State) :
    ∃ c', (s.withCal c).storeCalByte b = (s.storeCalByte b).withCal c' := by
  rcases storeCalByte_cases b s with ⟨hi, he⟩ | ⟨hi, he⟩ <;> rw [he]
  · exact ⟨c, by simp [State.storeCalByte, hi]⟩
  · exact ⟨c.set (calWordIdx s.calIdx).val (u16le b s.byteLo) (calWordIdx s.calIdx).isLt, by simp [State.storeCalByte, hi]⟩

/-- `A_CAL_RD` depends on the store in the store alone. -/
theorem execACalRd_withCal {s t : State} (c : Vector CalWord 12) (h : execACalRd s = .next t) :
    ∃ c', execACalRd (s.withCal c) = .next (t.withCal c') := by
  have hstore (b : Byte) := storeCalByte_withCal c b (s.readDone (calAddr s.cfg s.calIdx) (.byte b))
  rcases execACalRd_cases h with ⟨hc, rfl⟩ | ⟨w, hc, ⟨ha, rfl⟩ | ⟨b, ha, hi, rfl⟩ | ⟨b, ha, hi, rfl⟩⟩
  · exact ⟨c, execACalRd_silent (s := s.withCal c) hc⟩
  · exact ⟨c, execACalRd_err (s := s.withCal c) hc ha⟩
  · obtain ⟨c', hs⟩ := hstore b
    refine ⟨c', (execACalRd_byte (s := s.withCal c) hc ha hi).trans ?_⟩
    exact congrArg (fun s1 : State => Host.Outcome.next { s1 with calIdx := ⟨s.calIdx.val + 1, by omega⟩ }) hs
  · obtain ⟨c', hs⟩ := hstore b
    refine ⟨c', (execACalRd_lastByte (s := s.withCal c) hc ha hi).trans ?_⟩
    exact congrArg (fun s1 : State => Host.Outcome.next ({ s1 with calValid := true, lifecycle := .ready }.respond .ok)) hs

/-- The store's one writer (10_state R32). -/
theorem exec_cal {i : Instr} {s t : State} (hi : i ≠ .aCalRd) (h : exec i s = .next t) : t.cal = s.cal := by
  by_cases ht : i = .rCompT
  · subst ht; rw [execRCompT_cases h]
  by_cases hp : i = .rCompP
  · subst hp; rw [execRCompP_cases h]; rfl
  have hsame : exec i s = answerWithCal s.cal (exec i s) := exec_withCal hi ht hp s.cal s
  rw [h] at hsame
  have hkeep : t = t.withCal s.cal := Host.Outcome.next.inj hsame
  rw [hkeep]

/-! ### The outputs -/

/-- `t` shows what `s` showed on the reading ports (10_state R39 to R42). -/
def SameOutputs (s t : State) : Prop :=
  t.tempOut = s.tempOut ∧ t.pressX256Out = s.pressX256Out ∧ t.pressPaOut = s.pressPaOut ∧ t.outValid = s.outValid

theorem execAttach_sameOutputs {s t : State} (h : execAttach s = .next t) : SameOutputs s t := by
  rcases execAttach_cases h with ⟨-, rfl⟩ | ⟨-, rfl⟩ <;> simp [SameOutputs]

theorem execRead_sameOutputs {s t : State} (h : execRead s = .next t) : SameOutputs s t := by
  rcases execRead_cases h with ⟨-, rfl⟩ | ⟨-, rfl⟩ <;> simp [SameOutputs]

theorem execDetach_sameOutputs {s t : State} (h : execDetach s = .next t) : SameOutputs s t := by
  rcases execDetach_cases h with ⟨-, rfl⟩ | ⟨-, rfl⟩ | ⟨-, -, rfl⟩ <;> simp [SameOutputs]

theorem execIdle_sameOutputs {s t : State} (h : execIdle s = .next t) : SameOutputs s t := by
  rcases execIdle_cases h with ⟨-, rfl⟩ | ⟨-, hc⟩ | ⟨-, hc⟩ | ⟨-, hc⟩ | ⟨-, hc⟩
  · simp [SameOutputs]
  · rw [execNop_cases hc]; simp [SameOutputs]
  · exact execAttach_sameOutputs (s := s.takeCommand) hc
  · exact execRead_sameOutputs (s := s.takeCommand) hc
  · exact execDetach_sameOutputs (s := s.takeCommand) hc

theorem storeCalByte_sameOutputs (b : Byte) (s : State) : SameOutputs s (s.storeCalByte b) := by
  rcases storeCalByte_cases b s with ⟨-, he⟩ | ⟨-, he⟩ <;> rw [he] <;> simp [SameOutputs]

theorem execRd8_sameOutputs {addr : Addr} {s t : State} (h : execRd8 addr s = .next t) : SameOutputs s t := by
  unfold execRd8 at h
  rcases memRead_cases s addr _ with ⟨-, he⟩ | ⟨w, -, he⟩ <;> rw [he] at h <;> cases h <;> simp [SameOutputs]

theorem execWr8_sameOutputs {addr : Addr} {v : Byte} {s t : State} (h : execWr8 addr v s = .next t) : SameOutputs s t := by
  unfold execWr8 at h
  rcases memWrite_cases s addr v _ with ⟨-, he⟩ | ⟨w, -, he⟩ <;> rw [he] at h <;> cases h <;> simp [SameOutputs]

theorem execDly_sameOutputs {ms : BitVec 8} {s t : State} (h : execDly ms s = .next t) : SameOutputs s t := by
  unfold execDly at h
  rcases delay_cases s ms _ with ⟨-, he⟩ | ⟨-, he⟩ <;> rw [he] at h <;> cases h <;> simp [SameOutputs]

theorem execACalRd_sameOutputs {s t : State} (h : execACalRd s = .next t) : SameOutputs s t := by
  have hstore (b : Byte) := storeCalByte_sameOutputs b (s.readDone (calAddr s.cfg s.calIdx) (.byte b))
  rcases execACalRd_cases h with ⟨-, rfl⟩ | ⟨w, -, ⟨-, rfl⟩ | ⟨b, -, -, rfl⟩ | ⟨b, -, -, rfl⟩⟩
  · simp [SameOutputs]
  · simp [SameOutputs]
  · exact hstore b
  · exact hstore b

/-- Only `R_COMP_P` writes the outputs (10_state R42). -/
theorem exec_sameOutputs {i : Instr} {s t : State} (hi : i ≠ .rCompP) (h : exec i s = .next t) : SameOutputs s t := by
  cases i with
  | nop => rw [execNop_cases h]; simp [SameOutputs]
  | attach => exact execAttach_sameOutputs h
  | read => exact execRead_sameOutputs h
  | detach => exact execDetach_sameOutputs h
  | idle => exact execIdle_sameOutputs h
  | aIdRd =>
    rcases execAIdRd_cases h with ⟨-, rfl⟩ | ⟨w, -, ⟨-, rfl⟩ | ⟨b, -, -, rfl⟩ | ⟨-, rfl⟩⟩ <;> simp [SameOutputs]
  | aRstWr => rcases execARstWr_cases h with ⟨-, rfl⟩ | ⟨w, -, ⟨-, rfl⟩ | ⟨-, rfl⟩⟩ <;> simp [SameOutputs]
  | aRstDly => rcases execARstDly_cases h with ⟨-, rfl⟩ | ⟨-, rfl⟩ <;> simp [SameOutputs]
  | aPollRd =>
    rcases execAPollRd_cases h with ⟨-, rfl⟩ | ⟨w, -, ⟨-, rfl⟩ | ⟨b, -, -, rfl⟩ | ⟨b, -, -, rfl⟩⟩ <;>
      simp [SameOutputs]
  | aPollDly => rcases execAPollDly_cases h with ⟨-, rfl⟩ | ⟨-, -, rfl⟩ | ⟨-, -, rfl⟩ <;> simp [SameOutputs]
  | aCfgCtrlWr => rcases execACfgCtrlWr_cases h with ⟨-, rfl⟩ | ⟨w, -, ⟨-, rfl⟩ | ⟨-, rfl⟩⟩ <;> simp [SameOutputs]
  | aCfgConfigWr =>
    rcases execACfgConfigWr_cases h with ⟨-, rfl⟩ | ⟨w, -, ⟨-, rfl⟩ | ⟨-, rfl⟩⟩ <;> simp [SameOutputs]
  | aCalRd => exact execACalRd_sameOutputs h
  | rRawRd =>
    rcases execRRawRd_cases h with ⟨-, rfl⟩ | ⟨w, -, ⟨-, rfl⟩ | ⟨b, -, -, rfl⟩ | ⟨b, -, -, rfl⟩⟩ <;>
      simp [SameOutputs]
  | rCompT => rw [execRCompT_cases h]; simp [SameOutputs]
  | rCompP => exact absurd rfl hi
  | dSleepWr => rcases execDSleepWr_cases h with ⟨-, rfl⟩ | ⟨w, -, ⟨-, rfl⟩ | ⟨-, rfl⟩⟩ <;> simp [SameOutputs]
  | rd8 addr => exact execRd8_sameOutputs h
  | wr8 addr v => exact execWr8_sameOutputs h
  | dly ms => exact execDly_sameOutputs h

/-- `R_COMP_P` publishes a reading and answers `OK` or `DegeneratePressure` (43 R210, R218). -/
theorem execRCompP_outputs {s t : State} (h : execRCompP s = .next t) :
    t.outValid = true ∧ (t.rspStatus = .ok ∨ t.rspStatus = .degeneratePressure) ∧ t.tempOut = s.tempNew := by
  rw [execRCompP_cases h]
  refine ⟨rfl, ?_, rfl⟩
  cases hd : (compPCal (rawPress s.cfg.readOrder s.rawb) s.tFine s.cal).2 with
  | true => exact .inr rfl
  | false => exact .inl rfl

theorem decodeCh_cases {w : BitVec 17} {i : Instr} (h : decodeCh w = .ok i) :
    (∃ addr, i = .rd8 addr) ∨ ∃ addr v, i = .wr8 addr v := by
  unfold decodeCh at h
  split at h
  · cases h; exact .inr ⟨_, _, rfl⟩
  · split at h <;> cases h
    exact .inl ⟨_, rfl⟩

theorem decodeDly_cases {ms : BitVec 8} {i : Instr} (h : decodeDly ms = .ok i) : i = .dly ms := by
  unfold decodeDly at h
  split at h <;> cases h
  rfl

/-- The word of `PHASE`, or in `IDLE` the word of a request port (log entry 11). -/
theorem fetched_cases (s : State) :
    s.fetched = .uop (phaseCode s.phase) ∨ (∃ w, s.fetched = .ch w) ∨ ∃ ms, s.fetched = .dly ms := by
  by_cases hp : s.phase = .idle
  · cases ho : s.outstanding with
    | some w => exact .inr (.inl ⟨w, by simp [State.fetched, hp, ho]⟩)
    | none =>
      cases hd : s.dlyReq with
      | some ms => exact .inr (.inr ⟨ms, by simp [State.fetched, hp, ho, hd]⟩)
      | none => exact .inl (fetched_of_no_request ho hd)
  · exact .inl (fetched_of_busy hp)

/-- What a step can run: the micro-operation of `PHASE`, or the transaction or delay of a request port. -/
theorem decode_fetched_cases {s : State} {i : Instr} (h : decode s.fetched = .ok i) :
    i = phaseInstr s.phase ∨ (∃ addr, i = .rd8 addr) ∨ (∃ addr v, i = .wr8 addr v) ∨ ∃ ms, i = .dly ms := by
  rcases fetched_cases s with hf | ⟨w, hf⟩ | ⟨ms, hf⟩ <;> rw [hf] at h
  · cases (decode_phaseCode _).symm.trans h; exact .inl rfl
  · exact .inr ((decodeCh_cases h).imp_right .inl)
  · exact .inr (.inr (.inr ⟨ms, decodeDly_cases h⟩))

theorem runFetched_sameOutputs {s t : State} (hp : s.phase ≠ .rCompP) (h : runFetched s = .next t) : SameOutputs s t := by
  cases hd : decode s.fetched with
  | error e => rw [runFetched_of_error hd] at h; cases h
  | ok i =>
    rw [runFetched_of_ok hd] at h
    refine exec_sameOutputs ?_ h
    rcases decode_fetched_cases hd with rfl | ⟨addr, rfl⟩ | ⟨addr, v, rfl⟩ | ⟨ms, rfl⟩
    · intro hi
      cases hq : s.phase <;> simp_all [phaseInstr]
    all_goals nofun

end Sys2Proof.Machine
end

section
/-! The statements about the state: the invariant, reset, the calibration store and the outputs (10_state). -/

namespace Sys2Proof.Machine

/-- Settles O49: a reset meets the invariant, and a micro-operation keeps its registers' part and its ports' part. -/
theorem stepKeepsTheInvariant : Obligations.StepKeepsTheInvariant :=
  fun _ _ inv h => inv.of_step h

/-- Settles O8: a step with `rst = 1` is `hardReset`, whose registers are those of `State.reset`. -/
theorem resetGivesTheSpecsValues : Obligations.ResetGivesTheSpecsValues := by
  refine ⟨fun s hr => ⟨_, step_of_rst hr, ?_⟩, ?_⟩ <;> and_intros <;> rfl

/-- Settles O48: the reset state is its own reset, with the parameters of 00_scope R9. -/
theorem resetMeetsTheInvariant : Obligations.ResetMeetsTheInvariant :=
  invariant_hardReset (s := State.reset) (by decide)

/-- Settles O44: the operations commute with another store, but for its writer and its two readers. -/
theorem storeHasOneWriterAndOneReader : Obligations.StoreHasOneWriterAndOneReader := by
  refine ⟨fun i s t h hne => ?_, fun i s t c hcal ht hp h => ?_, fun s t c h => execACalRd_withCal c h⟩
  · by_contra hi
    exact hne (exec_cal hi h)
  · exact (exec_withCal hcal ht hp c s).trans (congrArg (answerWithCal c) h)

/-- Settles O45: only `R_COMP_P` writes the outputs, and only a reset clears `OUT_VALID`. -/
theorem outputsChangeOnlyAtTheEndOfARead : Obligations.OutputsChangeOnlyAtTheEndOfARead := by
  refine ⟨fun s t hr h => ?_, fun s hr => ⟨_, step_of_rst hr, rfl⟩⟩
  by_cases hp : s.phase = .rCompP
  · rw [step_busy hr (by rw [hp]; nofun), hp] at h
    have hout := execRCompP_outputs h
    exact ⟨absurd hp, fun _ => hout, fun _ => hout.1⟩
  · rw [step_of_no_rst hr] at h
    have hsame : SameOutputs s t := runFetched_sameOutputs (s := s.beginStep) hp h
    have ⟨_, _, _, hvalid⟩ := hsame
    exact ⟨fun _ => hsame, (absurd · hp), hvalid.trans⟩

end Sys2Proof.Machine
end

section
/-! SUPPORT. The bare transactions and delays when their agent answers (20_memory R63, R64, R75), and the integer values of
the assembled and converted words (20_memory R67, 10_state R31, 43 R196). -/

namespace Sys2Proof.Machine

/-! ### One transaction or delay, answered -/

theorem exec_rd8_answered {s : State} {w : BitVec 9} (h : s.channelAnswer = some w) (addr : Addr) :
    exec (.rd8 addr) s = .next (s.readDone addr (readAnswer w)) :=
  memRead_answered h addr fun _ t => .next t

theorem exec_wr8_answered {s : State} {w : BitVec 9} (h : s.channelAnswer = some w) (addr : Addr) (v : Byte) :
    exec (.wr8 addr v) s = .next (s.writeDone addr v (writeAnswer w)) :=
  memWrite_answered h addr v fun _ t => .next t

theorem exec_dly_done {s : State} (h : s.timerDone = true) (ms : BitVec 8) :
    exec (.dly ms) s = .next (s.delayDone ms) :=
  delay_done h ms fun t => .next t

/-! ### Words and their values -/

theorem u16le_toNat (msb lsb : Byte) : (u16le msb lsb).toNat = msb.toNat * 256 + lsb.toNat := by
  rw [u16le, BitVec.toNat_append, ← Nat.shiftLeft_add_eq_or_of_lt lsb.isLt, Nat.shiftLeft_eq]

/-- The widened word's sign bit is 0, so its integer value is the natural one. -/
theorem zextCal_toInt (w : CalWord) : (zextCal w).toInt = w.toNat := by
  rw [zextCal, BitVec.zeroExtend_eq_setWidth, ← BitVec.setWidth'_eq (by decide), BitVec.toInt_setWidth'_of_lt (by decide)]

theorem sextCal_toInt (w : CalWord) : (sextCal w).toInt = w.toInt := BitVec.toInt_signExtend_of_le (by decide)

end Sys2Proof.Machine
end

section
/-! The statements about memory: its transactions, the delays and the words it holds (20_memory). -/

namespace Sys2Proof.Machine

/-- Settles O39: the value of each conversion is a lemma; which conversion each operand gets is how `compTCal` and `compPCal`
are defined. -/
theorem operandsKeepTheirSignedness : Obligations.OperandsKeepTheirSignedness :=
  ⟨u16le_toNat, fun w => ⟨zextCal_toInt w, sextCal_toInt w⟩, zextRaw_toInt, fun _ _ => rfl, fun _ _ _ => rfl⟩

/-- Settles O30: nothing follows the answer, so taking it and recording its one event is the whole effect. -/
theorem transactionsAndDelaysByThemselves : Obligations.TransactionsAndDelaysByThemselves :=
  ⟨fun _ _ addr h => exec_rd8_answered h addr, fun _ _ addr v h => exec_wr8_answered h addr v,
    fun _ ms h => exec_dly_done h ms⟩

end Sys2Proof.Machine
end

section
/-! SUPPORT. The decoder and the encoder undo each other, format by format (30_encoding R92 to R98, R102), and the codes of
the registers do (R96, R97, 60_exceptions R230). -/

namespace Sys2Proof.Machine

/-! ### Format CMD -/

theorem decodeCmd_word : ∀ op : BitVec 2, (decodeCmd op).wf = true ∧ encode (decodeCmd op) = .cmd op := by decide

/-! ### Format UOP -/

/-- The decoder's table of format UOP is the table of `PHASE`. -/
theorem decodeUop_eq : ∀ code : BitVec 4,
    decodeUop code = (phaseOfCode code).elim (.error .reservedPhase) fun p => .ok (phaseInstr p) := by
  decide

theorem decodeUop_cases {code : BitVec 4} {i : Instr} (h : decodeUop code = .ok i) :
    ∃ p, phaseOfCode code = some p ∧ i = phaseInstr p := by
  rw [decodeUop_eq] at h
  cases hp : phaseOfCode code with
  | none => rw [hp] at h; cases h
  | some p => rw [hp] at h; cases h; exact ⟨p, rfl, rfl⟩

theorem phaseCode_of_phaseOfCode {code : BitVec 4} {p : Phase} (h : phaseOfCode code = some p) : phaseCode p = code := by
  have hall : ∀ c : BitVec 4, ∀ q ∈ phaseOfCode c, phaseCode q = c := by decide
  exact hall code p h

theorem phaseOfCode_eq_none : ∀ code : BitVec 4, 13 ≤ code.toNat → phaseOfCode code = none := by decide

theorem phaseInstr_word (p : Phase) : (phaseInstr p).wf = true ∧ encode (phaseInstr p) = .uop (phaseCode p) := by
  cases p <;> exact ⟨rfl, rfl⟩

/-! ### Format CH -/

theorem chIsWrite_eq (w : BitVec 17) : chIsWrite w = decide (65536 ≤ w.toNat) :=
  (BitVec.msb_eq_getLsbD_last w).symm.trans (BitVec.msb_eq_decide w)

theorem chData_toNat (w : BitVec 17) : (chData w).toNat = w.toNat % 256 := by
  simp [chData]

theorem chAddr_toNat (w : BitVec 17) : (chAddr w).toNat = w.toNat / 256 % 256 := by
  simp [chAddr, Nat.shiftRight_eq_div_pow]

theorem chWord_toNat (b : BitVec 1) (addr : Addr) (v : Byte) :
    ((b ++ addr) ++ v).toNat = (b.toNat * 256 + addr.toNat) * 256 + v.toNat := by
  rw [BitVec.toNat_append, BitVec.toNat_append, ← Nat.shiftLeft_add_eq_or_of_lt v.isLt,
    ← Nat.shiftLeft_add_eq_or_of_lt addr.isLt, Nat.shiftLeft_eq, Nat.shiftLeft_eq]

theorem chAddr_append (b : BitVec 1) (addr : Addr) (v : Byte) : chAddr ((b ++ addr) ++ v) = addr := by
  apply BitVec.eq_of_toNat_eq
  rw [chAddr_toNat, chWord_toNat]
  omega

theorem chData_append (b : BitVec 1) (addr : Addr) (v : Byte) : chData ((b ++ addr) ++ v) = v := by
  apply BitVec.eq_of_toNat_eq
  rw [chData_toNat, chWord_toNat]
  omega

/-- A word of format CH is its three fields (30_encoding R94). -/
theorem chFields_append (w : BitVec 17) : (BitVec.ofBool (chIsWrite w) ++ chAddr w) ++ chData w = w := by
  apply BitVec.eq_of_toNat_eq
  rw [chWord_toNat, chAddr_toNat, chData_toNat, chIsWrite_eq, BitVec.toNat_ofBool]
  by_cases h : 65536 ≤ w.toNat
  · rw [decide_eq_true h, Bool.toNat_true]
    omega
  · rw [decide_eq_false h, Bool.toNat_false]
    omega

theorem decodeCh_rd8Word (addr : Addr) : decodeCh (rd8Word addr) = .ok (.rd8 addr) := by
  have ha : chAddr (rd8Word addr) = addr := chAddr_append _ _ _
  have hd : chData (rd8Word addr) = 0#8 := chData_append _ _ _
  simp [decodeCh, chIsWrite_rd8Word, ha, hd]

theorem decodeCh_wr8Word (addr : Addr) (v : Byte) : decodeCh (wr8Word addr v) = .ok (.wr8 addr v) := by
  have ha : chAddr (wr8Word addr v) = addr := chAddr_append _ _ _
  have hd : chData (wr8Word addr v) = v := chData_append _ _ _
  simp [decodeCh, chIsWrite_wr8Word, ha, hd]

/-- An accepted word of format CH is the word of its instruction: a write's whatever its fields, a read's with `wdata = 0`. -/
theorem decodeCh_word {w : BitVec 17} {i : Instr} (h : decodeCh w = .ok i) : i.wf = true ∧ encode i = .ch w := by
  have hw := chFields_append w
  unfold decodeCh at h
  split at h
  · rename_i hwr
    cases h
    rw [hwr] at hw
    exact ⟨rfl, congrArg PortWord.ch hw⟩
  · rename_i hrd
    split at h <;> cases h
    rename_i hdata
    rw [Bool.eq_false_of_not_eq_true hrd, hdata] at hw
    exact ⟨rfl, congrArg PortWord.ch hw⟩

/-! ### Format DLY -/

theorem decodeDly_of_ne_zero {ms : BitVec 8} (h : ms ≠ 0#8) : decodeDly ms = .ok (.dly ms) := if_neg h

theorem decodeDly_word {ms : BitVec 8} {i : Instr} (h : decodeDly ms = .ok i) : i.wf = true ∧ encode i = .dly ms := by
  unfold decodeDly at h
  split at h <;> cases h
  exact ⟨bne_iff_ne.mpr ‹_›, rfl⟩

/-! ### Every format -/

theorem decode_encode {i : Instr} (h : i.wf = true) : decode (encode i) = .ok i := by
  cases i with
  | rd8 addr => exact decodeCh_rd8Word addr
  | wr8 addr v => exact decodeCh_wr8Word addr v
  | dly ms => exact decodeDly_of_ne_zero (bne_iff_ne.mp h)
  | _ => rfl

theorem encode_of_decode {p : PortWord} {i : Instr} (h : decode p = .ok i) : i.wf = true ∧ encode i = p := by
  cases p with
  | cmd op => cases h; exact decodeCmd_word op
  | uop code =>
    obtain ⟨p, hp, rfl⟩ := decodeUop_cases h
    rw [← phaseCode_of_phaseOfCode hp]
    exact phaseInstr_word p
  | ch w => exact decodeCh_word h
  | dly ms => exact decodeDly_word h

/-! ### The channel's answer and the codes of the registers -/

theorem chrErr_eq (w : BitVec 9) : chrErr w = decide (256 ≤ w.toNat) :=
  (BitVec.msb_eq_getLsbD_last w).symm.trans (BitVec.msb_eq_decide w)

theorem chrData_eq (w : BitVec 9) : chrData w = BitVec.ofNat 8 w.toNat := by
  apply BitVec.eq_of_toNat_eq
  simp [chrData]

theorem lifecycleOfCode_lifecycleCode (l : Lifecycle) : lifecycleOfCode (lifecycleCode l) = some l := by
  cases l <;> rfl

theorem statusOfCode_statusCode (st : Status) : statusOfCode (statusCode st) = some st := by
  cases st <;> rfl

end Sys2Proof.Machine
end

section
/-! SUPPORT. Every operation answers a next state (30_encoding R101, 43 R199, 70_reset R264). -/

namespace Sys2Proof.Machine

/-- A read answers when what follows each answer does; waiting is a next state too (40 R133). -/
theorem memRead_total (s : State) (addr : Addr) {k : ReadAnswer → State → Result} (herr : ∀ s1, ∃ t, k .err s1 = .next t)
    (hbyte : ∀ b s1, ∃ t, k (.byte b) s1 = .next t) : ∃ t, s.memRead addr k = .next t := by
  rcases memRead_cases s addr k with ⟨-, he⟩ | ⟨w, -, he⟩ <;> rw [he]
  · exact ⟨_, rfl⟩
  · cases readAnswer w with
    | err => exact herr _
    | byte b => exact hbyte b _

theorem memWrite_total (s : State) (addr : Addr) (v : Byte) {k : WriteAnswer → State → Result}
    (herr : ∀ s1, ∃ t, k .err s1 = .next t) (hok : ∀ s1, ∃ t, k .ok s1 = .next t) : ∃ t, s.memWrite addr v k = .next t := by
  rcases memWrite_cases s addr v k with ⟨-, he⟩ | ⟨w, -, he⟩ <;> rw [he]
  · exact ⟨_, rfl⟩
  · cases writeAnswer w with
    | err => exact herr _
    | ok => exact hok _

theorem delay_total (s : State) (ms : BitVec 8) {k : State → Result} (hk : ∀ s1, ∃ t, k s1 = .next t) :
    ∃ t, s.delay ms k = .next t := by
  rcases delay_cases s ms k with ⟨-, he⟩ | ⟨-, he⟩ <;> rw [he]
  · exact ⟨_, rfl⟩
  · exact hk _

/-- A test between two next states. -/
theorem ite_next {c : Prop} [Decidable c] (a b : State) : ∃ t, (if c then .next a else .next b : Result) = .next t :=
  ⟨if c then a else b, (apply_ite _ c a b).symm⟩

theorem execDetach_total (s : State) : ∃ t, execDetach s = .next t := by
  unfold execDetach
  split <;> exact ⟨_, rfl⟩

theorem execIdle_total (s : State) : ∃ t, execIdle s = .next t := by
  cases ho : s.commandOffered with
  | none => exact ⟨_, execIdle_quiet ho⟩
  | some op =>
    rw [execIdle_offered ho]
    unfold dispatchCommand
    split
    · exact ⟨_, rfl⟩
    · exact ite_next _ _
    · exact ite_next _ _
    · exact execDetach_total _

theorem exec_total (i : Instr) (s : State) : ∃ t, exec i s = .next t := by
  cases i with
  | nop => exact ⟨_, rfl⟩
  | attach => exact ite_next _ _
  | read => exact ite_next _ _
  | detach => exact execDetach_total s
  | idle => exact execIdle_total s
  | aIdRd => unfold exec execAIdRd; exact memRead_total s _ (fun _ => ⟨_, rfl⟩) fun _ _ => ite_next _ _
  | aRstWr => unfold exec execARstWr; exact memWrite_total s _ _ (fun _ => ⟨_, rfl⟩) fun _ => ⟨_, rfl⟩
  | aRstDly => unfold exec execARstDly; exact delay_total s _ fun _ => ⟨_, rfl⟩
  | aPollRd => unfold exec execAPollRd; exact memRead_total s _ (fun _ => ⟨_, rfl⟩) fun _ _ => ite_next _ _
  | aPollDly => unfold exec execAPollDly; exact delay_total s _ fun _ => ite_next _ _
  | aCfgCtrlWr => unfold exec execACfgCtrlWr; exact memWrite_total s _ _ (fun _ => ⟨_, rfl⟩) fun _ => ⟨_, rfl⟩
  | aCfgConfigWr => unfold exec execACfgConfigWr; exact memWrite_total s _ _ (fun _ => ⟨_, rfl⟩) fun _ => ⟨_, rfl⟩
  | aCalRd =>
    unfold exec execACalRd
    exact memRead_total s _ (fun _ => ⟨_, rfl⟩) fun _ _ => by dsimp only; split <;> exact ⟨_, rfl⟩
  | rRawRd =>
    unfold exec execRRawRd
    exact memRead_total s _ (fun _ => ⟨_, rfl⟩) fun _ _ => by dsimp only; split <;> exact ⟨_, rfl⟩
  | rCompT => exact ⟨_, rfl⟩
  | rCompP => exact ⟨_, rfl⟩
  | dSleepWr => unfold exec execDSleepWr; exact memWrite_total s _ _ (fun _ => ⟨_, rfl⟩) fun _ => ⟨_, rfl⟩
  | rd8 addr => unfold exec execRd8; exact memRead_total s addr (fun _ => ⟨_, rfl⟩) fun _ _ => ⟨_, rfl⟩
  | wr8 addr v => unfold exec execWr8; exact memWrite_total s addr v (fun _ => ⟨_, rfl⟩) fun _ => ⟨_, rfl⟩
  | dly ms => unfold exec execDly; exact delay_total s ms fun _ => ⟨_, rfl⟩

end Sys2Proof.Machine
end

section
/-! SUPPORT. What a step does with a placed word (log entries 10, 11), with the channel's handshake (30_encoding R90) and what
the ports show (30_encoding R91, R93). -/

namespace Sys2Proof.Machine

/-! ### Placed words -/

theorem presentWord_uop {code : BitVec 4} {p : Phase} (h : phaseOfCode code = some p) (s : State) :
    ∃ c, presentWord (.uop code) s =
      { s with rst := false :: s.rst, chReq := none, chPending := none, dlyReq := none, phase := p, cmdIn := c } := by
  simp only [presentWord, h]
  cases p <;> exact ⟨_, rfl⟩

theorem decodeTableWord_cases {nbits w : Nat} {i : Instr} (h : decodeTableWord nbits w = some i) :
    ∃ p, tablePort nbits w = some p ∧ decode p = .ok i := by
  unfold decodeTableWord at h
  split at h
  · cases h
  · rename_i p hp
    split at h <;> cases h
    exact ⟨p, hp, ‹_›⟩

/-- A word that is placed and decodes is run by the next step, whichever port it stands on. -/
theorem step_presentWord {p : PortWord} {i : Instr} (h : decode p = .ok i) (s : State) :
    ∃ (ph : Phase) (c : List (Option (BitVec 2))) (q : Option (BitVec 17)) (d : Option (BitVec 8)),
      step (presentWord p s) =
        exec i { s with
          phase := ph, rspValid := false, cmdIn := c, chReq := q, chPending := none, dlyReq := d, freeCnt := s.freeCnt + 1 } := by
  cases p with
  | cmd op =>
    cases h
    exact ⟨.idle, s.cmdIn, none, none, step_offered (s := presentWord (.cmd op) s) rfl rfl rfl rfl rfl⟩
  | uop code =>
    obtain ⟨ph, hph, rfl⟩ := decodeUop_cases h
    obtain ⟨c, hs⟩ := presentWord_uop hph s
    rw [hs]
    exact ⟨ph, c, none, none, step_no_request rfl rfl rfl⟩
  | ch w => exact ⟨.idle, s.cmdIn, some w, none, (step_of_no_rst rfl).trans (runFetched_of_ok h)⟩
  | dly ms => exact ⟨.idle, s.cmdIn, none, some ms, (step_of_no_rst rfl).trans (runFetched_of_ok h)⟩

/-! ### The channel's handshake -/

theorem agentOf_of_phaseRequest {s : State} {q : BitVec 17} (h : s.phaseRequest = some q) :
    agentOf (phaseInstr s.phase) = .channel := by
  by_contra hne
  cases (phaseRequest_eq_none hne).symm.trans h

/-- A step that waits for the channel keeps the request of its phase with it, on offer or awaited, and does nothing else. -/
theorem Invariant.step_of_silent_channel {s : State} {q : BitVec 17} (inv : Invariant s) (hr : s.rstNow = false)
    (hq : s.phaseRequest = some q) (hc : s.channelAnswer = none) : step s = .next (s.beginStep.awaitChannel q) :=
  (inv.step_eq_exec hr).trans (exec_of_silent_channel (s := s.beginStep) hq hc)

theorem awaitChannel_not_taken {s : State} (h : s.chTaken = false) (q : BitVec 17) :
    s.awaitChannel q = { s with chReq := some q, chPending := none, chIn := s.chIn.tail } := by
  rcases awaitChannel_cases q s with ⟨-, he⟩ | ⟨ht, -⟩
  · exact he
  · cases h.symm.trans ht

theorem awaitChannel_taken {s : State} (h : s.chTaken = true) (q : BitVec 17) :
    s.awaitChannel q = { s with chReq := none, chPending := some q, chIn := s.chIn.tail } := by
  rcases awaitChannel_cases q s with ⟨ht, -⟩ | ⟨-, he⟩
  · cases h.symm.trans ht
  · exact he

theorem storeCalByte_inputs (b : Byte) (s : State) :
    (s.storeCalByte b).cmdIn = s.cmdIn ∧ (s.storeCalByte b).chIn = s.chIn := by
  rcases storeCalByte_cases b s with ⟨-, he⟩ | ⟨-, he⟩ <;> rw [he] <;> exact ⟨rfl, rfl⟩

/-- A busy block does not look at the command port, and with the channel it uses up one entry of its inputs (40 R121). -/
theorem exec_busy_inputs {p : Phase} {s t : State} (hp : p ≠ .idle) (h : exec (phaseInstr p) s = .next t) :
    t.cmdIn = s.cmdIn ∧ (agentOf (phaseInstr p) = .channel → t.chIn = s.chIn.tail) := by
  cases p with
  | idle => exact absurd rfl hp
  | aIdRd =>
    rcases execAIdRd_cases h with ⟨-, rfl⟩ | ⟨w, -, ⟨-, rfl⟩ | ⟨b, -, -, rfl⟩ | ⟨-, rfl⟩⟩ <;> exact ⟨rfl, fun _ => rfl⟩
  | aRstWr => rcases execARstWr_cases h with ⟨-, rfl⟩ | ⟨w, -, ⟨-, rfl⟩ | ⟨-, rfl⟩⟩ <;> exact ⟨rfl, fun _ => rfl⟩
  | aRstDly => rcases execARstDly_cases h with ⟨-, rfl⟩ | ⟨-, rfl⟩ <;> exact ⟨rfl, nofun⟩
  | aPollRd =>
    rcases execAPollRd_cases h with ⟨-, rfl⟩ | ⟨w, -, ⟨-, rfl⟩ | ⟨b, -, -, rfl⟩ | ⟨b, -, -, rfl⟩⟩ <;>
      exact ⟨rfl, fun _ => rfl⟩
  | aPollDly => rcases execAPollDly_cases h with ⟨-, rfl⟩ | ⟨-, -, rfl⟩ | ⟨-, -, rfl⟩ <;> exact ⟨rfl, nofun⟩
  | aCfgCtrlWr => rcases execACfgCtrlWr_cases h with ⟨-, rfl⟩ | ⟨w, -, ⟨-, rfl⟩ | ⟨-, rfl⟩⟩ <;> exact ⟨rfl, fun _ => rfl⟩
  | aCfgConfigWr =>
    rcases execACfgConfigWr_cases h with ⟨-, rfl⟩ | ⟨w, -, ⟨-, rfl⟩ | ⟨-, rfl⟩⟩ <;> exact ⟨rfl, fun _ => rfl⟩
  | aCalRd =>
    have hstore (b : Byte) := storeCalByte_inputs b (s.readDone (calAddr s.cfg s.calIdx) (.byte b))
    rcases execACalRd_cases h with ⟨-, rfl⟩ | ⟨w, -, ⟨-, rfl⟩ | ⟨b, -, -, rfl⟩ | ⟨b, -, -, rfl⟩⟩
    · exact ⟨rfl, fun _ => rfl⟩
    · exact ⟨rfl, fun _ => rfl⟩
    · exact (hstore b).imp_right fun hch _ => hch
    · exact (hstore b).imp_right fun hch _ => hch
  | rRawRd =>
    rcases execRRawRd_cases h with ⟨-, rfl⟩ | ⟨w, -, ⟨-, rfl⟩ | ⟨b, -, -, rfl⟩ | ⟨b, -, -, rfl⟩⟩ <;>
      exact ⟨rfl, fun _ => rfl⟩
  | rCompT => rw [execRCompT_cases h]; exact ⟨rfl, nofun⟩
  | rCompP => rw [execRCompP_cases h]; exact ⟨rfl, nofun⟩
  | dSleepWr => rcases execDSleepWr_cases h with ⟨-, rfl⟩ | ⟨w, -, ⟨-, rfl⟩ | ⟨-, rfl⟩⟩ <;> exact ⟨rfl, fun _ => rfl⟩

/-- An accepted request without an answer is off the port and awaited; `PHASE` and the trace stay (30_encoding R90). -/
theorem Invariant.step_of_taken_request {s : State} {q : BitVec 17} (inv : Invariant s) (hr : s.rstNow = false)
    (hq : s.phaseRequest = some q) (ht : s.chTaken = true) (hc : s.channelAnswer = none) :
    ∃ t, step s = .next t ∧ t.chPending = some q ∧ t.phase = s.phase ∧ t.ports.chReqValid = false ∧ t.trace = s.trace := by
  refine ⟨_, inv.step_of_silent_channel hr hq hc, ?_⟩
  rw [awaitChannel_taken (s := s.beginStep) ht]
  exact ⟨rfl, rfl, rfl, rfl⟩

/-- A step in which the answer comes ends the transaction: it takes the answer, records one request and then at most responds. -/
theorem Invariant.step_of_answer {s : State} {q : BitVec 17} {w : BitVec 9} (inv : Invariant s) (hr : s.rstNow = false)
    (hq : s.phaseRequest = some q) (hc : s.channelAnswer = some w) :
    ∃ (e : Event) (t : State), e.isRequest = true ∧ step s = .next t ∧
      OnlyResponds (s.beginStep.takeAnswer.record e) t ∧ t.chIn = s.chIn.tail := by
  obtain ⟨t, ht⟩ := exec_total (phaseInstr s.phase) s.beginStep
  have hagent := agentOf_of_phaseRequest hq
  have hbusy : s.phase ≠ .idle := by
    intro hp
    rw [hp] at hagent
    cases hagent
  obtain ⟨-, hchIn⟩ := exec_busy_inputs hbusy ht
  have heffect := exec_effect ht
  rw [hagent] at heffect
  cases heffect with
  | awaitChannel _ hn => cases hn.symm.trans hc
  | transact _ he hresp => exact ⟨_, t, he, (inv.step_eq_exec hr).trans ht, hresp, hchIn hagent⟩

/-- Behind one request, `OnlyResponds` leaves that request the only new one. -/
theorem OnlyResponds.one_request {e : Event} {s t : State} (h : OnlyResponds (s.record e) t) (he : e.isRequest = true) :
    ((t.trace.drop s.trace.length).filter Event.isRequest).length = 1 := by
  obtain ⟨evs, htr, hreq, -⟩ := h.appends
  simp [htr, he, hreq]

/-! ### The ports -/

theorem cmdReady_iff {s : State} : s.ports.cmdReady = true ↔ s.phase = .idle := by
  simp [State.ports, State.busy]

theorem readingPorts_of_valid {s : State} (h : s.outValid = true) :
    s.readingPorts = some ⟨s.tempOut, s.pressX256Out, s.pressPaOut⟩ := if_pos h

theorem readingPorts_of_invalid {s : State} (h : s.outValid = false) : s.readingPorts = none := by
  simp [State.readingPorts, h]

end Sys2Proof.Machine
end

section
/-! The statements about the encodings, the ports and their handshakes (30_encoding). -/

namespace Sys2Proof.Machine

/-- Settles O1, format by format. -/
theorem decodeAndEncodeAgree : Obligations.DecodeAndEncodeAgree :=
  ⟨fun _ h => decode_encode h, fun _ _ h => encode_of_decode h⟩

/-- Settles O2: the codes by evaluation, the CH and DLY words as the words of their fields. -/
theorem wordsOfTheSpecDecode : Obligations.WordsOfTheSpecDecode :=
  ⟨rfl, rfl, rfl, decodeCh_rd8Word 0xD0#8, decodeCh_wr8Word 0xE0#8 0xB6#8, decodeCh_rd8Word 0x9F#8,
    decodeCh_wr8Word 0xF4#8 0x27#8, decodeCh_wr8Word 0xF5#8 0x00#8, decodeCh_wr8Word 0xF4#8 0x00#8,
    decodeDly_of_ne_zero (by decide), decodeDly_of_ne_zero (by decide)⟩

/-- Settles O3: a reserved phase code is no phase, and a word below 65536 is a read, whose data field is the word modulo 256. -/
theorem reservedWordsAreRejected : Obligations.ReservedWordsAreRejected := by
  refine ⟨fun c hc => ?_, fun w hlt hne => ?_, rfl, by decide, by decide⟩
  · exact (decodeUop_eq c).trans (by rw [phaseOfCode_eq_none c hc]; rfl)
  · have hrd : chIsWrite w = false := by rw [chIsWrite_eq]; exact decide_eq_false (by omega)
    have hdata : chData w ≠ 0#8 := fun h => hne (by rw [← chData_toNat, h]; rfl)
    simp [decode, decodeCh, hrd, hdata]

/-- Settles O4: `err` is the word's top bit, so it is set from 256 on. -/
theorem channelAnswerFormat : Obligations.ChannelAnswerFormat := by
  refine fun w => ⟨fun h => ?_, fun h => ?_⟩
  · have herr : chrErr w = true := by rw [chrErr_eq]; exact decide_eq_true h
    exact ⟨readAnswer_err herr, writeAnswer_err herr⟩
  · have hok : chrErr w = false := by rw [chrErr_eq]; exact decide_eq_false (by omega)
    exact ⟨by rw [readAnswer_byte hok, chrData_eq], writeAnswer_ok hok⟩

/-- Settles O6: the word stands on its port, where the next step finds it. -/
theorem placedTableWordRunsNext : Obligations.PlacedTableWordRunsNext := by
  intro s nbits w i h
  obtain ⟨p, hp, hd⟩ := decodeTableWord_cases h
  have hs : s.withFetchWord nbits w = presentWord p s := by simp only [State.withFetchWord, presentTableWord, hp]
  rw [hs]
  exact step_presentWord hd s

/-- Settles O7: the ports carry the registers' codes, which name them back, and a sample gives the reading the ports show. -/
theorem portsShowRegisters : Obligations.PortsShowRegisters := by
  refine ⟨fun s => ⟨cmdReady_iff, lifecycleOfCode_lifecycleCode _, statusOfCode_statusCode _, statusOfCode_statusCode _,
    rfl, rfl, rfl, fun h => ?_, fun h => ?_, ?_, ?_⟩, rfl, rfl⟩
  · have hnone := readingPorts_of_invalid h
    exact ⟨sampleReading_of_none hnone, by simp [State.ports, hnone]⟩
  · have hsome := readingPorts_of_valid h
    exact ⟨sampleReading_of_reading hsome, by simp [State.ports, hsome]⟩
  · simp [State.ports, Option.isSome_iff_exists]
  · simp [State.ports, Option.isSome_iff_exists]

/-- Settles O10: a request that is not taken stays on offer, a taken one without an answer is awaited, and an answer ends the
wait with one event; only `IDLE` looks at the command port. -/
theorem handshakesTransferOnce : Obligations.HandshakesTransferOnce := by
  refine ⟨fun s q inv hr hq hp hready => ?_, fun s q rest inv hr hq hp hin => ?_,
    fun s q ready rest inv hr hq hp hin => ?_, fun s q ready a rest inv hr hq htaken hin => ?_,
    fun s t hr hstep hne => ?_⟩
  · have hnot : s.chTaken = false := by simp [State.chTaken, hp, hready]
    refine ⟨_, inv.step_of_silent_channel hr hq (channelAnswer_of_not_taken hnot), ?_⟩
    rw [awaitChannel_not_taken (s := s.beginStep) hnot]
    exact ⟨rfl, rfl, rfl, hq, rfl, rfl, rfl⟩
  · have htaken : s.chTaken = true := by simp [State.chTaken, State.channelReady, hin]
    exact inv.step_of_taken_request hr hq htaken (channelAnswer_of_ready hin)
  · have hpending : s.chPending.isSome = true := by simp [hp]
    have htaken : s.chTaken = true := by simp [State.chTaken, hpending]
    exact inv.step_of_taken_request hr hq htaken (channelAnswer_of_pending hpending hin)
  · have hc : s.channelAnswer = some a := by
      rcases htaken with hp | rfl
      · exact channelAnswer_of_pending (by simp [hp]) hin
      · exact channelAnswer_of_ready hin
    obtain ⟨e, t, he, hstep, hresp, hchIn⟩ := inv.step_of_answer hr hq hc
    have hrest : t.chIn = rest := by rw [hchIn, hin, List.tail_cons]
    exact ⟨t, hstep, hresp.chReq, hresp.chPending, hrest, hresp.one_request (s := s.beginStep.takeAnswer) he⟩
  · by_contra hclosed
    have hbusy : s.phase ≠ .idle := fun hp => hclosed (cmdReady_iff.mpr hp)
    rw [step_busy hr hbusy] at hstep
    obtain ⟨hcmd, -⟩ := exec_busy_inputs hbusy hstep
    exact hne hcmd

/-- Settles O43: a step with the invariant is a reset or one micro-operation, and every operation answers. -/
theorem noInstructionStops : Obligations.NoInstructionStops := by
  refine ⟨exec_total, fun s inv => ?_⟩
  cases hr : s.rstNow with
  | true => exact ⟨_, step_of_rst hr⟩
  | false => rw [inv.step_eq_exec hr]; exact exec_total _ _

end Sys2Proof.Machine
end

section
/-! SUPPORT. What the four host commands do when they are accepted (40 R121, R123 to R129). -/

namespace Sys2Proof.Machine

theorem execAttach_unattached {s : State} (h : s.lifecycle = .unattached) :
    execAttach s = .next { s.clearWarn with phase := .aIdRd } := if_neg (not_not.mpr h)

theorem execAttach_refused {s : State} (h : s.lifecycle ≠ .unattached) :
    execAttach s = .next (s.clearWarn.respond .badState) := if_pos h

theorem execRead_ready {s : State} (h : s.lifecycle = .ready) :
    execRead s = .next { s.clearWarn with rawIdx := 0, phase := .rRawRd } := if_neg (not_not.mpr h)

theorem execRead_refused {s : State} (h : s.lifecycle ≠ .ready) :
    execRead s = .next (s.clearWarn.respond .notReady) := if_pos h

theorem execDetach_ready {s : State} (h : s.lifecycle = .ready) :
    execDetach s = .next { s.clearWarn with phase := .dSleepWr } := by simp only [execDetach, h]

theorem execDetach_failed {s : State} (h : s.lifecycle = .failed) :
    execDetach s =
      .next ({ s.clearWarn with lifecycle := .unattached, lastErr := .ok, calValid := false }.respond .ok) := by
  simp only [execDetach, h]

theorem execDetach_unattached {s : State} (h : s.lifecycle = .unattached) :
    execDetach s = .next (s.clearWarn.respond .ok) := by simp only [execDetach, h]

/-- Every accepted command clears `WARN` (40 R121). -/
theorem dispatchCommand_warn {op : BitVec 2} {s t : State} (h : dispatchCommand op s = .next t) : t.warn = 0#2 := by
  unfold dispatchCommand at h
  split at h
  · rw [execNop_cases h]; rfl
  · rcases execAttach_cases h with ⟨-, rfl⟩ | ⟨-, rfl⟩ <;> rfl
  · rcases execRead_cases h with ⟨-, rfl⟩ | ⟨-, rfl⟩ <;> rfl
  · rcases execDetach_cases h with ⟨-, rfl⟩ | ⟨-, rfl⟩ | ⟨-, -, rfl⟩ <;> rfl

/-! ### A busy block and the command port -/

/-- The state with other commands on offer. -/
abbrev State.withCommands (c : List (Option (BitVec 2))) (s : State) : State := { s with cmdIn := c }

/-- What a meaning answers, with other commands on offer. -/
def answerWithCommands (c : List (Option (BitVec 2))) : Result → Result
  | .next s => .next (s.withCommands c)
  | .fault r => .fault r
  | .refused r => .refused r

/-- A read does not look at the command port: it depends on it no more than what follows the answer. -/
theorem memRead_withCommands (c : List (Option (BitVec 2))) (s : State) (addr : Addr) {k k' : ReadAnswer → State → Result}
    (hk : ∀ r s1, k' r (s1.withCommands c) = answerWithCommands c (k r s1)) :
    (s.withCommands c).memRead addr k' = answerWithCommands c (s.memRead addr k) := by
  rcases memRead_cases s addr k with ⟨hc, he⟩ | ⟨w, hc, he⟩ <;> rw [he]
  · exact memRead_silent (s := s.withCommands c) hc addr k'
  · rw [← hk]; exact memRead_answered (s := s.withCommands c) hc addr k'

theorem memWrite_withCommands (c : List (Option (BitVec 2))) (s : State) (addr : Addr) (v : Byte)
    {k k' : WriteAnswer → State → Result} (hk : ∀ r s1, k' r (s1.withCommands c) = answerWithCommands c (k r s1)) :
    (s.withCommands c).memWrite addr v k' = answerWithCommands c (s.memWrite addr v k) := by
  rcases memWrite_cases s addr v k with ⟨hc, he⟩ | ⟨w, hc, he⟩ <;> rw [he]
  · exact memWrite_silent (s := s.withCommands c) hc addr v k'
  · rw [← hk]; exact memWrite_answered (s := s.withCommands c) hc addr v k'

theorem delay_withCommands (c : List (Option (BitVec 2))) (s : State) (ms : BitVec 8) {k k' : State → Result}
    (hk : ∀ s1, k' (s1.withCommands c) = answerWithCommands c (k s1)) :
    (s.withCommands c).delay ms k' = answerWithCommands c (s.delay ms k) := by
  rcases delay_cases s ms k with ⟨hd, he⟩ | ⟨hd, he⟩ <;> rw [he]
  · exact delay_silent (s := s.withCommands c) hd ms k'
  · rw [← hk]; exact delay_done (s := s.withCommands c) hd ms k'

theorem execAIdRd_withCommands (c : List (Option (BitVec 2))) (s : State) :
    execAIdRd (s.withCommands c) = answerWithCommands c (execAIdRd s) := by
  unfold execAIdRd
  refine memRead_withCommands c s _ fun r s1 => ?_
  cases r with
  | err => rfl
  | byte b => rw [apply_ite (answerWithCommands c)]; rfl

theorem execAPollRd_withCommands (c : List (Option (BitVec 2))) (s : State) :
    execAPollRd (s.withCommands c) = answerWithCommands c (execAPollRd s) := by
  unfold execAPollRd
  refine memRead_withCommands c s _ fun r s1 => ?_
  cases r with
  | err => rfl
  | byte b => rw [apply_ite (answerWithCommands c)]; rfl

theorem execAPollDly_withCommands (c : List (Option (BitVec 2))) (s : State) :
    execAPollDly (s.withCommands c) = answerWithCommands c (execAPollDly s) := by
  unfold execAPollDly
  refine delay_withCommands c s _ fun s1 => ?_
  rw [apply_ite (answerWithCommands c)]
  rfl

theorem storeCalByte_withCommands (c : List (Option (BitVec 2))) (b : Byte) (s : State) :
    (s.withCommands c).storeCalByte b = (s.storeCalByte b).withCommands c := by
  unfold State.storeCalByte
  rw [apply_ite (State.withCommands c)]

theorem execACalRd_withCommands (c : List (Option (BitVec 2))) (s : State) :
    execACalRd (s.withCommands c) = answerWithCommands c (execACalRd s) := by
  unfold execACalRd
  refine memRead_withCommands c s _ fun r s1 => ?_
  cases r with
  | err => rfl
  | byte b =>
    dsimp only
    rw [storeCalByte_withCommands, apply_dite (answerWithCommands c)]
    rfl

theorem execRRawRd_withCommands (c : List (Option (BitVec 2))) (s : State) :
    execRRawRd (s.withCommands c) = answerWithCommands c (execRRawRd s) := by
  unfold execRRawRd
  refine memRead_withCommands c s _ fun r s1 => ?_
  cases r with
  | err => rfl
  | byte b => dsimp only; rw [apply_dite (answerWithCommands c)]; rfl

theorem execRCompT_withCommands (c : List (Option (BitVec 2))) (s : State) :
    execRCompT (s.withCommands c) = answerWithCommands c (execRCompT s) := rfl

theorem execRCompP_withCommands (c : List (Option (BitVec 2))) (s : State) :
    execRCompP (s.withCommands c) = answerWithCommands c (execRCompP s) := by
  dsimp only [execRCompP, answerWithCommands]
  generalize compPCal _ _ _ = cp
  rfl

/-- Whatever is offered on the command port, a busy block does the same and leaves the port alone (40 R121). -/
theorem exec_withCommands {p : Phase} (hp : p ≠ .idle) (c : List (Option (BitVec 2))) (s : State) :
    exec (phaseInstr p) (s.withCommands c) = answerWithCommands c (exec (phaseInstr p) s) := by
  cases p with
  | idle => exact absurd rfl hp
  | aIdRd => exact execAIdRd_withCommands c s
  | aRstWr => unfold exec; exact memWrite_withCommands c s _ _ fun r s1 => by cases r <;> rfl
  | aRstDly => unfold exec; exact delay_withCommands c s _ fun s1 => rfl
  | aPollRd => exact execAPollRd_withCommands c s
  | aPollDly => exact execAPollDly_withCommands c s
  | aCfgCtrlWr => unfold exec; exact memWrite_withCommands c s _ _ fun r s1 => by cases r <;> rfl
  | aCfgConfigWr => unfold exec; exact memWrite_withCommands c s _ _ fun r s1 => by cases r <;> rfl
  | aCalRd => exact execACalRd_withCommands c s
  | rRawRd => exact execRRawRd_withCommands c s
  | rCompT => exact execRCompT_withCommands c s
  | rCompP => exact execRCompP_withCommands c s
  | dSleepWr => unfold exec; exact memWrite_withCommands c s _ _ fun r s1 => by cases r <;> rfl

end Sys2Proof.Machine
end

section
/-! SUPPORT. What a finishing micro-operation does to its command: the edges of the two tables (40 R131, R132), the bound on
what remains (R133) and the response (R122), one lemma for each micro-operation. -/

namespace Sys2Proof.Machine

/-- The response of the step just done, as the trace holds it: one event while `rsp_valid` is 1 (40 R122). -/
def State.responseEvents (s : State) : List Event :=
  if s.rspValid then [.rsp ⟨s.rspStatus, s.rspWarn, s.readingPorts⟩] else []

/-- `u` follows `s` without a response: the trace holds more requests at most, and the agents' inputs lack at most an entry. -/
def Unanswered (s u : State) : Prop :=
  u.rspValid = s.rspValid ∧
  (∃ reqs : List Event, (∀ e ∈ reqs, e.isRequest = true) ∧ u.trace = s.trace ++ reqs) ∧
  (u.chIn = s.chIn ∨ u.chIn = s.chIn.tail) ∧ (u.dlyIn = s.dlyIn ∨ u.dlyIn = s.dlyIn.tail) ∧ u.rst = s.rst

/-- What a micro-operation that finishes in `t` has done to its command. -/
structure Finished (s t : State) : Prop where
  phase : t.phase = s.phaseTable
  lifecycle : t.lifecycle = s.lifecycleTable
  remaining : s.phase ≠ .idle → t.remaining < s.remaining
  responds : t.rspValid = true ↔ t.phase = .idle
  trace : ∃ reqs : List Event, (∀ e ∈ reqs, e.isRequest = true) ∧ t.trace = s.trace ++ reqs ++ t.responseEvents
  chIn : t.chIn = s.chIn ∨ t.chIn = s.chIn.tail
  dlyIn : t.dlyIn = s.dlyIn ∨ t.dlyIn = s.dlyIn.tail
  rst : t.rst = s.rst

/-! ### The two ways to finish: respond, or go on in another micro-operation -/

theorem unanswered_self (s : State) : Unanswered s s :=
  ⟨rfl, ⟨[], by simp⟩, .inl rfl, .inl rfl, rfl⟩

theorem unanswered_answered {e : Event} (he : e.isRequest = true) (s : State) : Unanswered s (s.takeAnswer.record e) :=
  ⟨rfl, ⟨[e], by simpa using he, rfl⟩, .inr rfl, .inl rfl, rfl⟩

theorem unanswered_delayed (ms : BitVec 8) (s : State) : Unanswered s (s.delayDone ms) :=
  ⟨rfl, ⟨[.dly ms], by simp [Event.isRequest], rfl⟩, .inl rfl, .inr rfl, rfl⟩

theorem Unanswered.storeCalByte {s u : State} (h : Unanswered s u) (b : Byte) : Unanswered s (u.storeCalByte b) := by
  rcases storeCalByte_cases b u with ⟨-, he⟩ | ⟨-, he⟩ <;> rw [he] <;> exact h

theorem remaining_pos {s : State} (h : s.phase ≠ .idle) : 0 < s.remaining := by
  have hcal := s.calIdx.isLt
  have hraw := s.rawIdx.isLt
  cases hp : s.phase with
  | idle => exact absurd hp h
  | _ => simp only [State.remaining, hp]; omega

/-- `respond` ends the command. -/
theorem Unanswered.respond {s u : State} (h : Unanswered s u) (st : Status) (hphase : s.phaseTable = .idle)
    (hlife : u.lifecycle = s.lifecycleTable) : Finished s (u.respond st) := by
  obtain ⟨-, ⟨reqs, hreq, htr⟩, hch, hdly, hrst⟩ := h
  refine ⟨hphase.symm, hlife, remaining_pos, by simp, ⟨reqs, hreq, ?_⟩, hch, hdly, hrst⟩
  rw [State.respond_trace, htr]
  rfl

/-- `fail` does too, in `Failed`. -/
theorem Unanswered.fail {s u : State} (h : Unanswered s u) (code : Status) (hphase : s.phaseTable = .idle)
    (hlife : s.lifecycleTable = .failed) : Finished s (u.fail code) :=
  Unanswered.respond (u := { u with lifecycle := .failed, lastErr := code, calValid := false }) h code hphase hlife.symm

/-- A command that goes on has not been answered. -/
theorem Unanswered.goesOn {s t : State} (h : Unanswered s t) (hv : s.rspValid = false) (hphase : t.phase = s.phaseTable)
    (hbusy : t.phase ≠ .idle) (hlife : t.lifecycle = s.lifecycleTable)
    (hrem : s.phase ≠ .idle → t.remaining < s.remaining) : Finished s t := by
  obtain ⟨hsame, ⟨reqs, hreq, htr⟩, hch, hdly, hrst⟩ := h
  have hnone : t.rspValid = false := hsame.trans hv
  have htrace : t.trace = s.trace ++ reqs ++ t.responseEvents := by simp [State.responseEvents, hnone, htr]
  exact ⟨hphase, hlife, hrem, by simp [hnone, hbusy], ⟨reqs, hreq, htrace⟩, hch, hdly, hrst⟩

/-! ### Acceptance -/

theorem Invariant.phaseLifecycle_of {s : State} (inv : Invariant s) {p : Phase} (hp : s.phase = p) :
    phaseLifecycle p s.lifecycle = true := hp ▸ inv.lifecycleOfPhase

theorem readAnswerNow_of_answer {s : State} {w : BitVec 9} {a : ReadAnswer} (hc : s.channelAnswer = some w)
    (ha : readAnswer w = a) : s.readAnswerNow = some a := by
  rw [State.readAnswerNow, hc, Option.map_some, ha]

theorem writeAnswerNow_of_answer {s : State} {w : BitVec 9} {a : WriteAnswer} (hc : s.channelAnswer = some w)
    (ha : writeAnswer w = a) : s.writeAnswerNow = some a := by
  rw [State.writeAnswerNow, hc, Option.map_some, ha]

/-- In `IDLE` only a `DETACH` from `Failed` changes `STATE` (40 R131). -/
theorem lifecycleTable_idle {s : State} (hp : s.phase = .idle) (h : s.lifecycle ≠ .failed ∨ s.commandOffered ≠ some 3#2) :
    s.lifecycle = s.lifecycleTable := by
  cases hl : s.lifecycle <;> simp_all [State.lifecycleTable]

theorem execNop_finished {s t : State} (hp : s.phase = .idle) (hc : s.commandOffered = some 0#2)
    (h : execNop s.takeCommand = .next t) : Finished s t := by
  have hun : Unanswered s s.takeCommand.clearWarn := unanswered_self s
  rw [execNop_cases h]
  exact hun.respond .ok (by simp [State.phaseTable, hp, hc]) (lifecycleTable_idle hp (.inr (by simp [hc])))

theorem execAttach_finished {s t : State} (hp : s.phase = .idle) (hv : s.rspValid = false)
    (hc : s.commandOffered = some 1#2) (h : execAttach s.takeCommand = .next t) : Finished s t := by
  have hun : Unanswered s s.takeCommand.clearWarn := unanswered_self s
  rcases execAttach_cases h with ⟨hne, rfl⟩ | ⟨hu, rfl⟩
  · have hl : s.lifecycle ≠ .unattached := hne
    exact hun.respond .badState (by simp [State.phaseTable, hp, hc, hl]) (lifecycleTable_idle hp (.inr (by simp [hc])))
  · have hl : s.lifecycle = .unattached := hu
    exact Unanswered.goesOn hun hv (by simp [State.phaseTable, hp, hc, hl]) nofun
      (lifecycleTable_idle hp (.inl (by simp [hl]))) (absurd hp)

theorem execRead_finished {s t : State} (hp : s.phase = .idle) (hv : s.rspValid = false)
    (hc : s.commandOffered = some 2#2) (h : execRead s.takeCommand = .next t) : Finished s t := by
  have hun : Unanswered s s.takeCommand.clearWarn := unanswered_self s
  rcases execRead_cases h with ⟨hne, rfl⟩ | ⟨hready, rfl⟩
  · have hl : s.lifecycle ≠ .ready := hne
    exact hun.respond .notReady (by simp [State.phaseTable, hp, hc, hl]) (lifecycleTable_idle hp (.inr (by simp [hc])))
  · have hl : s.lifecycle = .ready := hready
    exact Unanswered.goesOn hun hv (by simp [State.phaseTable, hp, hc, hl]) nofun
      (lifecycleTable_idle hp (.inl (by simp [hl]))) (absurd hp)

theorem execDetach_finished {s t : State} (hp : s.phase = .idle) (hv : s.rspValid = false)
    (hc : s.commandOffered = some 3#2) (h : execDetach s.takeCommand = .next t) : Finished s t := by
  have hun : Unanswered s s.takeCommand.clearWarn := unanswered_self s
  rcases execDetach_cases h with ⟨hready, rfl⟩ | ⟨hfailed, rfl⟩ | ⟨hnr, hnf, rfl⟩
  · have hl : s.lifecycle = .ready := hready
    exact Unanswered.goesOn hun hv (by simp [State.phaseTable, hp, hc, hl]) nofun
      (lifecycleTable_idle hp (.inl (by simp [hl]))) (absurd hp)
  · have hl : s.lifecycle = .failed := hfailed
    refine Unanswered.respond ?_ .ok (by simp [State.phaseTable, hp, hc, hl]) (by simp [State.lifecycleTable, hp, hc, hl])
    exact hun
  · have hl : s.lifecycle ≠ .ready := hnr
    exact hun.respond .ok (by simp [State.phaseTable, hp, hc, hl]) (lifecycleTable_idle hp (.inl hnf))

theorem execIdle_finished {s t : State} (hp : s.phase = .idle) (hv : s.rspValid = false)
    (ho : s.commandOffered ≠ none) (h : execIdle s = .next t) : Finished s t := by
  rcases execIdle_cases h with ⟨hc, -⟩ | ⟨hc, he⟩ | ⟨hc, he⟩ | ⟨hc, he⟩ | ⟨hc, he⟩
  · exact absurd hc ho
  · exact execNop_finished hp hc he
  · exact execAttach_finished hp hv hc he
  · exact execRead_finished hp hv hc he
  · exact execDetach_finished hp hv hc he

/-! ### The micro-operations of ATTACH -/

theorem execAIdRd_finished {s t : State} (inv : Invariant s) (hp : s.phase = .aIdRd) (hv : s.rspValid = false)
    (hn : s.channelAnswer ≠ none) (h : execAIdRd s = .next t) : Finished s t := by
  have hl : s.lifecycle = .unattached := beq_iff_eq.mp (inv.phaseLifecycle_of hp)
  rcases execAIdRd_cases h with ⟨hc, -⟩ | ⟨w, hc, ⟨ha, rfl⟩ | ⟨b, ha, hne, rfl⟩ | ⟨ha, rfl⟩⟩
  · exact absurd hc hn
  · have hr := readAnswerNow_of_answer hc ha
    exact (unanswered_answered rfl s).fail _ (by simp [State.phaseTable, hp, hr]) (by simp [State.lifecycleTable, hp, hl, hr])
  · have hr := readAnswerNow_of_answer hc ha
    exact (unanswered_answered rfl s).fail _ (by simp [State.phaseTable, hp, hr, hne])
      (by simp [State.lifecycleTable, hp, hl, hr, hne])
  · have hr := readAnswerNow_of_answer hc ha
    exact Unanswered.goesOn (unanswered_answered rfl s) hv (by simp [State.phaseTable, hp, hr]) nofun
      (by simp [State.lifecycleTable, hp, hl, hr]) (by simp [State.remaining, hp])

theorem execARstWr_finished {s t : State} (inv : Invariant s) (hp : s.phase = .aRstWr) (hv : s.rspValid = false)
    (hn : s.channelAnswer ≠ none) (h : execARstWr s = .next t) : Finished s t := by
  have hl : s.lifecycle = .identityChecked := beq_iff_eq.mp (inv.phaseLifecycle_of hp)
  rcases execARstWr_cases h with ⟨hc, -⟩ | ⟨w, hc, ⟨ha, rfl⟩ | ⟨ha, rfl⟩⟩
  · exact absurd hc hn
  · have hr := writeAnswerNow_of_answer hc ha
    exact (unanswered_answered rfl s).fail _ (by simp [State.phaseTable, hp, hr]) (by simp [State.lifecycleTable, hp, hl, hr])
  · have hr := writeAnswerNow_of_answer hc ha
    exact Unanswered.goesOn (unanswered_answered rfl s) hv (by simp [State.phaseTable, hp, hr]) nofun
      (by simp [State.lifecycleTable, hp, hl, hr]) (by simp [State.remaining, hp])

theorem execARstDly_finished {s t : State} (hp : s.phase = .aRstDly) (hv : s.rspValid = false)
    (hn : s.timerDone = true) (h : execARstDly s = .next t) : Finished s t := by
  rcases execARstDly_cases h with ⟨hd, -⟩ | ⟨-, rfl⟩
  · cases hd.symm.trans hn
  · exact Unanswered.goesOn (unanswered_delayed s.cfg.resetDelayMs s) hv (by simp [State.phaseTable, hp]) nofun
      (by simp [State.lifecycleTable, hp]) (by simp [State.remaining, hp])

/-- One more poll is counted while the delay after it still stands out (41 R144). -/
theorem execAPollRd_finished {s t : State} (inv : Invariant s) (hp : s.phase = .aPollRd) (hv : s.rspValid = false)
    (hn : s.channelAnswer ≠ none) (h : execAPollRd s = .next t) : Finished s t := by
  have hl : s.lifecycle = .reset := beq_iff_eq.mp (inv.phaseLifecycle_of hp)
  rcases execAPollRd_cases h with ⟨hc, -⟩ | ⟨w, hc, ⟨ha, rfl⟩ | ⟨b, ha, hb, rfl⟩ | ⟨b, ha, hb, rfl⟩⟩
  · exact absurd hc hn
  · have hr := readAnswerNow_of_answer hc ha
    exact (unanswered_answered rfl s).fail _ (by simp [State.phaseTable, hp, hr]) (by simp [State.lifecycleTable, hp, hl, hr])
  · have hr := readAnswerNow_of_answer hc ha
    have hpoll := inv.pollReadBound hp
    exact Unanswered.goesOn (unanswered_answered rfl s) hv (by simp [State.phaseTable, hp, hr, hb]) nofun
      (by simp [State.lifecycleTable, hp, hl, hr]) (by simp [State.remaining, hp]; omega)
  · have hr := readAnswerNow_of_answer hc ha
    have hpoll := inv.pollReadBound hp
    have hcount : (s.pollCnt + 1#4).toNat = s.pollCnt.toNat + 1 := by bv_omega
    exact Unanswered.goesOn (unanswered_answered rfl s) hv (by simp [State.phaseTable, hp, hr, hb]) nofun
      (by simp [State.lifecycleTable, hp, hl, hr]) (by simp [State.remaining, hp, hcount]; omega)

theorem execAPollDly_finished {s t : State} (inv : Invariant s) (hp : s.phase = .aPollDly) (hv : s.rspValid = false)
    (hn : s.timerDone = true) (h : execAPollDly s = .next t) : Finished s t := by
  rcases execAPollDly_cases h with ⟨hd, -⟩ | ⟨-, hlast, rfl⟩ | ⟨-, hne, rfl⟩
  · cases hd.symm.trans hn
  · exact Unanswered.goesOn (unanswered_delayed s.cfg.pollDelayMs s) hv (by simp [State.phaseTable, hp, hlast]) nofun
      (by simp [State.lifecycleTable, hp]) (by simp [State.remaining, hp]; omega)
  · have hpoll := inv.pollBound
    have hlt : s.pollCnt.toNat < s.cfg.pollMax.toNat := by bv_omega
    exact Unanswered.goesOn (unanswered_delayed s.cfg.pollDelayMs s) hv (by simp [State.phaseTable, hp, hlt]) nofun
      (by simp [State.lifecycleTable, hp]) (by simp [State.remaining, hp])

theorem execACfgCtrlWr_finished {s t : State} (inv : Invariant s) (hp : s.phase = .aCfgCtrlWr) (hv : s.rspValid = false)
    (hn : s.channelAnswer ≠ none) (h : execACfgCtrlWr s = .next t) : Finished s t := by
  have hl : s.lifecycle = .reset := beq_iff_eq.mp (inv.phaseLifecycle_of hp)
  rcases execACfgCtrlWr_cases h with ⟨hc, -⟩ | ⟨w, hc, ⟨ha, rfl⟩ | ⟨ha, rfl⟩⟩
  · exact absurd hc hn
  · have hr := writeAnswerNow_of_answer hc ha
    exact (unanswered_answered rfl s).fail _ (by simp [State.phaseTable, hp, hr]) (by simp [State.lifecycleTable, hp, hl, hr])
  · have hr := writeAnswerNow_of_answer hc ha
    exact Unanswered.goesOn (unanswered_answered rfl s) hv (by simp [State.phaseTable, hp, hr]) nofun
      (by simp [State.lifecycleTable, hp, hl, hr]) (by simp [State.remaining, hp])

theorem execACfgConfigWr_finished {s t : State} (inv : Invariant s) (hp : s.phase = .aCfgConfigWr) (hv : s.rspValid = false)
    (hn : s.channelAnswer ≠ none) (h : execACfgConfigWr s = .next t) : Finished s t := by
  have hl : s.lifecycle = .reset := beq_iff_eq.mp (inv.phaseLifecycle_of hp)
  rcases execACfgConfigWr_cases h with ⟨hc, -⟩ | ⟨w, hc, ⟨ha, rfl⟩ | ⟨ha, rfl⟩⟩
  · exact absurd hc hn
  · have hr := writeAnswerNow_of_answer hc ha
    exact (unanswered_answered rfl s).fail _ (by simp [State.phaseTable, hp, hr]) (by simp [State.lifecycleTable, hp, hl, hr])
  · have hr := writeAnswerNow_of_answer hc ha
    exact Unanswered.goesOn (unanswered_answered rfl s) hv (by simp [State.phaseTable, hp, hr]) nofun
      (by simp [State.lifecycleTable, hp, hl, hr]) (by simp [State.remaining, hp])

theorem execACalRd_finished {s t : State} (inv : Invariant s) (hp : s.phase = .aCalRd) (hv : s.rspValid = false)
    (hn : s.channelAnswer ≠ none) (h : execACalRd s = .next t) : Finished s t := by
  have hl : s.lifecycle = .reset := beq_iff_eq.mp (inv.phaseLifecycle_of hp)
  rcases execACalRd_cases h with ⟨hc, -⟩ | ⟨w, hc, ⟨ha, rfl⟩ | ⟨b, ha, hi, rfl⟩ | ⟨b, ha, hi, rfl⟩⟩
  · exact absurd hc hn
  · have hr := readAnswerNow_of_answer hc ha
    exact (unanswered_answered rfl s).fail _ (by simp [State.phaseTable, hp, hr]) (by simp [State.lifecycleTable, hp, hl, hr])
  · have hr := readAnswerNow_of_answer hc ha
    have hne : s.calIdx.val ≠ 23 := by omega
    exact Unanswered.goesOn ((unanswered_answered rfl s).storeCalByte b) hv (by simp [State.phaseTable, hp, hr, hi])
      (by simp [hp]) (by simp [State.lifecycleTable, hp, hl, hr, hne]) (by simp [State.remaining, hp]; omega)
  · have hr := readAnswerNow_of_answer hc ha
    refine Unanswered.respond ?_ .ok (by simp [State.phaseTable, hp, hr, hi]) (by simp [State.lifecycleTable, hp, hl, hr, hi])
    exact (unanswered_answered rfl s).storeCalByte b

/-! ### The micro-operations of READ and DETACH -/

theorem execRRawRd_finished {s t : State} (inv : Invariant s) (hp : s.phase = .rRawRd) (hv : s.rspValid = false)
    (hn : s.channelAnswer ≠ none) (h : execRRawRd s = .next t) : Finished s t := by
  have hl : s.lifecycle = .ready := beq_iff_eq.mp (inv.phaseLifecycle_of hp)
  have hlife : s.lifecycle = s.lifecycleTable := by simp [State.lifecycleTable, hp, hl]
  rcases execRRawRd_cases h with ⟨hc, -⟩ | ⟨w, hc, ⟨ha, rfl⟩ | ⟨b, ha, hi, rfl⟩ | ⟨b, ha, hi, rfl⟩⟩
  · exact absurd hc hn
  · have hr := readAnswerNow_of_answer hc ha
    exact (unanswered_answered rfl s).respond _ (by simp [State.phaseTable, hp, hr]) hlife
  · have hr := readAnswerNow_of_answer hc ha
    exact Unanswered.goesOn (unanswered_answered rfl s) hv (by simp [State.phaseTable, hp, hr, hi]) (by simp [hp]) hlife
      (by simp [State.remaining, hp]; omega)
  · have hr := readAnswerNow_of_answer hc ha
    exact Unanswered.goesOn (unanswered_answered rfl s) hv (by simp [State.phaseTable, hp, hr, hi]) nofun hlife
      (by simp [State.remaining, hp, hi])

theorem execRCompT_finished {s t : State} (inv : Invariant s) (hp : s.phase = .rCompT) (hv : s.rspValid = false)
    (h : execRCompT s = .next t) : Finished s t := by
  have hl : s.lifecycle = .ready := beq_iff_eq.mp (inv.phaseLifecycle_of hp)
  rw [execRCompT_cases h]
  exact Unanswered.goesOn (unanswered_self s) hv (by simp [State.phaseTable, hp]) nofun (by simp [State.lifecycleTable, hp, hl])
    (by simp [State.remaining, hp])

theorem execRCompP_finished {s t : State} (inv : Invariant s) (hp : s.phase = .rCompP) (h : execRCompP s = .next t) :
    Finished s t := by
  have hl : s.lifecycle = .ready := beq_iff_eq.mp (inv.phaseLifecycle_of hp)
  rw [execRCompP_cases h]
  refine Unanswered.respond ?_ _ (by simp [State.phaseTable, hp]) (by simp [State.lifecycleTable, hp, hl])
  exact unanswered_self s

theorem execDSleepWr_finished {s t : State} (inv : Invariant s) (hp : s.phase = .dSleepWr)
    (hn : s.channelAnswer ≠ none) (h : execDSleepWr s = .next t) : Finished s t := by
  have hl : s.lifecycle = .ready := beq_iff_eq.mp (inv.phaseLifecycle_of hp)
  have hphase : s.phaseTable = .idle := by simp [State.phaseTable, hp]
  have hlife : .unattached = s.lifecycleTable := by simp [State.lifecycleTable, hp, hl]
  rcases execDSleepWr_cases h with ⟨hc, -⟩ | ⟨w, hc, ⟨ha, rfl⟩ | ⟨ha, rfl⟩⟩
  · exact absurd hc hn
  · refine Unanswered.respond ?_ .ok hphase hlife
    exact unanswered_answered rfl s
  · refine Unanswered.respond ?_ .ok hphase hlife
    exact unanswered_answered rfl s

/-! ### Every micro-operation, and the step -/

theorem answered_of_not_waiting {s : State} (hw : s.waiting = false) (ha : agentOf (phaseInstr s.phase) = .channel) :
    s.channelAnswer ≠ none := by
  simpa [waiting_of_channel ha, ← Option.ne_none_iff_isSome] using hw

theorem done_of_not_waiting {s : State} (hw : s.waiting = false) (ha : agentOf (phaseInstr s.phase) = .timer) :
    s.timerDone = true := by
  simpa [waiting_of_timer ha] using hw

theorem offered_of_not_waiting {s : State} (hw : s.waiting = false) (hp : s.phase = .idle) : s.commandOffered ≠ none := by
  simpa [State.waiting, hp, ← Option.ne_none_iff_isSome] using hw

theorem exec_finished {s t : State} (inv : Invariant s) (hv : s.rspValid = false) (hw : s.waiting = false)
    (h : exec (phaseInstr s.phase) s = .next t) : Finished s t := by
  have hch := answered_of_not_waiting hw
  have hdly := done_of_not_waiting hw
  cases hp : s.phase <;> rw [hp] at h hch hdly
  case idle => exact execIdle_finished hp hv (offered_of_not_waiting hw hp) h
  case aIdRd => exact execAIdRd_finished inv hp hv (hch rfl) h
  case aRstWr => exact execARstWr_finished inv hp hv (hch rfl) h
  case aRstDly => exact execARstDly_finished hp hv (hdly rfl) h
  case aPollRd => exact execAPollRd_finished inv hp hv (hch rfl) h
  case aPollDly => exact execAPollDly_finished inv hp hv (hdly rfl) h
  case aCfgCtrlWr => exact execACfgCtrlWr_finished inv hp hv (hch rfl) h
  case aCfgConfigWr => exact execACfgConfigWr_finished inv hp hv (hch rfl) h
  case aCalRd => exact execACalRd_finished inv hp hv (hch rfl) h
  case rRawRd => exact execRRawRd_finished inv hp hv (hch rfl) h
  case rCompT => exact execRCompT_finished inv hp hv h
  case rCompP => exact execRCompP_finished inv hp h
  case dSleepWr => exact execDSleepWr_finished inv hp (hch rfl) h

theorem Invariant.beginStep {s : State} (inv : Invariant s) : Invariant s.beginStep :=
  have ⟨hregs, hports⟩ := invariant_iff.mp inv
  invariant_iff.mpr ⟨hregs, hports⟩

/-- A step that does not wait finishes its micro-operation. -/
theorem Invariant.step_finished {s t : State} (inv : Invariant s) (hr : s.rstNow = false) (hw : s.waiting = false)
    (h : step s = .next t) : Finished s.beginStep t :=
  exec_finished inv.beginStep rfl hw ((inv.step_eq_exec hr).symm.trans h)

/-- A step that waits leaves the command where it stands, unanswered (40 R133). -/
theorem Invariant.step_waiting {s t : State} (inv : Invariant s) (hr : s.rstNow = false) (hw : s.waiting = true)
    (h : step s = .next t) :
    t.phase = s.phase ∧ t.lifecycle = s.lifecycle ∧ t.remaining = s.remaining ∧ t.rspValid = false ∧
      t.trace = s.trace := by
  rw [inv.step_eq_exec hr] at h
  rcases exec_of_waiting (s := s.beginStep) hw h with ⟨q, -, rfl⟩ | ⟨ms, -, rfl⟩ | ⟨-, rfl⟩ <;>
    exact ⟨rfl, rfl, rfl, rfl, rfl⟩

theorem Invariant.step_lifecycle {s t : State} (inv : Invariant s) (hr : s.rstNow = false) (h : step s = .next t) :
    t.lifecycle = if s.waiting then s.lifecycle else s.lifecycleTable := by
  cases hw : s.waiting with
  | true =>
    obtain ⟨-, hlife, -⟩ := inv.step_waiting hr hw h
    exact hlife
  | false => exact (inv.step_finished hr hw h).lifecycle

/-- No row leads from `Ready` to `Failed`: a transport error of a `READ` or a `DETACH` keeps out of `STATE` (40 R131). -/
theorem lifecycleTable_of_ready {s : State} (h : s.lifecycle = .ready) : s.lifecycleTable ≠ .failed := by
  cases hp : s.phase <;> simp [State.lifecycleTable, h, hp]

end Sys2Proof.Machine
end

section
/-! SUPPORT. A command whose agents keep their duty, run to its response (40 R122, R133). -/

namespace Sys2Proof.Machine

/-- An agent's inputs keep their duty for one step less when a step has used one entry at most. -/
theorem duty_of_used {α : Type} {used l : List α} {P : α → Prop} {n : Nat} (h : used = l ∨ used = l.tail)
    (hlen : n + 1 ≤ l.length) (hall : ∀ x ∈ l, P x) : n ≤ used.length ∧ ∀ x ∈ used, P x := by
  rcases h with rfl | rfl
  · exact ⟨by omega, hall⟩
  · exact ⟨by rw [List.length_tail]; omega, fun x hx => hall x (List.mem_of_mem_tail hx)⟩

theorem rstNow_of_quiet {s : State} (h : ∀ r ∈ s.rst, r = false) : s.rstNow = false := by
  cases hr : s.rst with
  | nil => simp [State.rstNow, hr]
  | cons r rest => simp [State.rstNow, hr, h r (by simp [hr])]

theorem channelAnswer_of_prompt {s : State} {n : Nat} (h : s.prompt (n + 1)) : s.channelAnswer ≠ none := by
  obtain ⟨hlen, -, hch, -, -⟩ := h
  cases hin : s.chIn with
  | nil => simp [hin] at hlen
  | cons e rest =>
    obtain ⟨hready, hrsp⟩ := hch e (by simp [hin])
    simpa [State.channelAnswer, State.chTaken, State.channelReady, hin, hready, Option.ne_none_iff_isSome] using hrsp

theorem timerDone_of_prompt {s : State} {n : Nat} (h : s.prompt (n + 1)) : s.timerDone = true := by
  obtain ⟨-, hlen, -, hdly, -⟩ := h
  cases hin : s.dlyIn with
  | nil => simp [hin] at hlen
  | cons d rest => simp [State.timerDone, hin, hdly d (by simp [hin])]

/-- A busy block whose agents answer in this step does not wait. -/
theorem not_waiting_of_prompt {s : State} {n : Nat} (h : s.prompt (n + 1)) (hp : s.phase ≠ .idle) : s.waiting = false := by
  cases ha : agentOf (phaseInstr s.phase) with
  | channel => simpa [waiting_of_channel ha, ← Option.ne_none_iff_isSome] using channelAnswer_of_prompt h
  | timer => simpa [waiting_of_timer ha] using timerDone_of_prompt h
  | none =>
    by_contra hw
    obtain ⟨hidle, -⟩ := waiting_alone ha (Bool.eq_true_of_not_eq_false hw)
    exact hp hidle

/-- A step that finishes leaves agents that keep their duty for one step less. -/
theorem Finished.prompt {s t : State} {n : Nat} (f : Finished s.beginStep t) (h : s.prompt (n + 1)) : t.prompt n := by
  obtain ⟨hchLen, hdlyLen, hch, hdly, hrst⟩ := h
  obtain ⟨hchLen', hch'⟩ := duty_of_used f.chIn hchLen hch
  obtain ⟨hdlyLen', hdly'⟩ := duty_of_used f.dlyIn hdlyLen hdly
  have hrst' : ∀ r ∈ t.rst, r = false := by
    rw [f.rst]
    exact fun r hr => hrst r (List.mem_of_mem_tail hr)
  exact ⟨hchLen', hdlyLen', hch', hdly', hrst'⟩

/-- The command in execution in `s` ends in `t`, `n` steps later, with its one response; before it there are only requests. -/
structure RespondsAfter (n : Nat) (s t : State) : Prop where
  run : Host.Core.run Sys2Proof.core n s = .next t
  phase : t.phase = .idle
  rspValid : t.rspValid = true
  trace : ∃ reqs : List Event, (∀ e ∈ reqs, e.isRequest = true) ∧ t.trace = s.trace ++ reqs ++ t.responseEvents

theorem RespondsAfter.of_step {s t : State} (f : Finished s.beginStep t) (h : step s = .next t) (hp : t.phase = .idle) :
    RespondsAfter 1 s t :=
  ⟨run_succ h 0, hp, f.responds.mpr hp, f.trace⟩

theorem RespondsAfter.behind_step {n : Nat} {s u t : State} (f : Finished s.beginStep u) (h : step s = .next u)
    (hp : u.phase ≠ .idle) (hr : RespondsAfter n u t) : RespondsAfter (n + 1) s t := by
  have hsilent : u.rspValid = false := by simpa [hp] using f.responds
  obtain ⟨first, hfirst, htr⟩ := f.trace
  obtain ⟨rest, hrest, htr'⟩ := hr.trace
  refine ⟨(run_succ h n).trans hr.run, hr.phase, hr.rspValid, first ++ rest, ?_, ?_⟩
  · simpa [or_imp, forall_and] using ⟨hfirst, hrest⟩
  · simp [htr', htr, State.responseEvents, hsilent]

/-- By induction on the bound: a step that does not end the command makes what remains smaller. -/
theorem Invariant.responds_of_prompt {n : Nat} {s : State} (inv : Invariant s) (hp : s.phase ≠ .idle)
    (hn : s.remaining ≤ n) (h : s.prompt n) : ∃ k t, k ≤ n ∧ RespondsAfter k s t := by
  induction n generalizing s with
  | zero => exact absurd hn (Nat.not_le.mpr (remaining_pos hp))
  | succ n ih =>
    obtain ⟨-, -, -, -, hrst⟩ := id h
    have hr := rstNow_of_quiet hrst
    obtain ⟨t, ht⟩ := exec_total (phaseInstr s.phase) s.beginStep
    have hstep : step s = .next t := (inv.step_eq_exec hr).trans ht
    have f := inv.step_finished hr (not_waiting_of_prompt h hp) hstep
    by_cases hend : t.phase = .idle
    · exact ⟨1, t, by omega, .of_step f hstep hend⟩
    · have hless : t.remaining < s.remaining := f.remaining hp
      obtain ⟨k, u, hk, hu⟩ := ih (inv.of_step hstep) hend (by omega) (f.prompt h)
      exact ⟨k + 1, u, by omega, hu.behind_step f hstep hend⟩

end Sys2Proof.Machine
end

section
/-! SUPPORT. The whole ATTACH with good answers (40 R124, 41 R140, R151): what each micro-operation does when its answer is
good, and how far the command has got after it. -/

namespace Sys2Proof.Machine

/-! ### Each micro-operation with a good answer -/

theorem execAIdRd_match {s : State} {w : BitVec 9} (hc : s.channelAnswer = some w)
    (ha : readAnswer w = .byte s.cfg.chipId) :
    execAIdRd s = .next { s.readDone s.cfg.regId (.byte s.cfg.chipId) with
      lifecycle := .identityChecked, phase := .aRstWr } := by
  unfold execAIdRd
  rw [memRead_answered hc, ha]
  exact if_neg (not_not.mpr rfl)

theorem execARstWr_ok {s : State} {w : BitVec 9} (hc : s.channelAnswer = some w) (ha : writeAnswer w = .ok) :
    execARstWr s = .next { s.writeDone s.cfg.regReset s.cfg.resetCmd .ok with lifecycle := .reset, phase := .aRstDly } := by
  unfold execARstWr
  rw [memWrite_answered hc, ha]

theorem execARstDly_done {s : State} (h : s.timerDone = true) :
    execARstDly s = .next { s.delayDone s.cfg.resetDelayMs with pollCnt := 0#4, phase := .aPollRd } := by
  unfold execARstDly
  exact delay_done h _ _

theorem execAPollRd_clear {s : State} {w : BitVec 9} {b : Byte} (hc : s.channelAnswer = some w)
    (ha : readAnswer w = .byte b) (hb : b &&& s.cfg.imUpdateMask = 0#8) :
    execAPollRd s = .next { s.readDone s.cfg.regStatus (.byte b) with phase := .aCfgCtrlWr } := by
  unfold execAPollRd
  rw [memRead_answered hc, ha]
  exact if_pos hb

theorem execACfgCtrlWr_ok {s : State} {w : BitVec 9} (hc : s.channelAnswer = some w) (ha : writeAnswer w = .ok) :
    execACfgCtrlWr s =
      .next { s.writeDone s.cfg.regCtrlMeas s.cfg.ctrlMeasValue .ok with phase := .aCfgConfigWr } := by
  unfold execACfgCtrlWr
  rw [memWrite_answered hc, ha]

theorem execACfgConfigWr_ok {s : State} {w : BitVec 9} (hc : s.channelAnswer = some w) (ha : writeAnswer w = .ok) :
    execACfgConfigWr s =
      .next { s.writeDone s.cfg.regConfig s.cfg.configValue .ok with calIdx := 0, phase := .aCalRd } := by
  unfold execACfgConfigWr
  rw [memWrite_answered hc, ha]

theorem readAnswer_byteWord (b : Byte) : readAnswer (0#1 ++ b) = .byte b := by revert b; decide

/-! ### How far an ATTACH has got -/

/-- What an `ATTACH` whose polling ends in time leaves alone: the parameters, the warnings, `LAST_ERR`, the samples, the engine's
registers and the outputs. -/
def KeptByAttach (s t : State) : Prop :=
  t.cfg = s.cfg ∧ t.warn = s.warn ∧ t.lastErr = s.lastErr ∧ t.rawb = s.rawb ∧ t.rawT = s.rawT ∧ t.rawP = s.rawP ∧
  t.tFine = s.tFine ∧ t.tempNew = s.tempNew ∧ t.tempOut = s.tempOut ∧ t.pressX256Out = s.pressX256Out ∧
  t.pressPaOut = s.pressPaOut ∧ t.outValid = s.outValid

theorem KeptByAttach.readingPorts {s t : State} (h : KeptByAttach s t) : t.readingPorts = s.readingPorts := by
  obtain ⟨-, -, -, -, -, -, -, -, htemp, hpress, hpa, hvalid⟩ := h
  simp only [State.readingPorts, htemp, hpress, hpa, hvalid]

/-- An `ATTACH` accepted in `s` stands at `p` in `t`, with `evs` behind it and `ins` and `done` still to come from its agents. -/
def Attaching (s : State) (p : Phase) (evs : List Event) (ins : List ChannelInput) (done : List Bool) (t : State) : Prop :=
  t.phase = p ∧ t.rst = [] ∧ t.chIn = ins ∧ t.dlyIn = done ∧ t.trace = s.trace ++ evs ∧ KeptByAttach s t

section
variable {s t : State} {p : Phase} {evs : List Event} {ins : List ChannelInput} {done : List Bool}

theorem Attaching.cfg (h : Attaching s p evs ins done t) : t.cfg = s.cfg := by
  obtain ⟨-, -, -, -, -, hcfg, -⟩ := h
  exact hcfg

theorem Attaching.step_eq (h : Attaching s p evs ins done t) (hp : p ≠ .idle) :
    step t = exec (phaseInstr p) t.beginStep := by
  obtain ⟨rfl, hrst, -⟩ := h
  exact step_busy (by simp [State.rstNow, hrst]) hp

theorem Attaching.answer {w : BitVec 9} (h : Attaching s p evs (.answer w :: ins) done t) :
    t.beginStep.channelAnswer = some w := by
  obtain ⟨-, -, hin, -⟩ := h
  exact channelAnswer_of_ready (s := t.beginStep) hin

/-- One answered transaction further. -/
theorem Attaching.transacted {e : ChannelInput} (h : Attaching s p evs (e :: ins) done t) (ev : Event) :
    Attaching s p (evs ++ [ev]) ins done (t.beginStep.takeAnswer.record ev) := by
  obtain ⟨hp, hrst, hin, hdone, htr, hkept⟩ := h
  exact ⟨hp, by simp [hrst], by simp [hin], hdone, by simp [htr], hkept⟩

theorem Attaching.goTo (h : Attaching s p evs ins done t) (q : Phase) : Attaching s q evs ins done { t with phase := q } := by
  obtain ⟨-, hrest⟩ := h
  exact ⟨rfl, hrest⟩

theorem Attaching.storeCalByte (h : Attaching s p evs ins done t) (b : Byte) :
    Attaching s p evs ins done (t.storeCalByte b) := by
  rcases storeCalByte_cases b t with ⟨-, he⟩ | ⟨-, he⟩ <;> rw [he] <;> exact h

/-- The response shows the warnings and the reading of acceptance. -/
theorem Attaching.respond (h : Attaching s p evs ins done t) (st : Status) :
    Attaching s .idle (evs ++ [.rsp ⟨st, s.warn, s.readingPorts⟩]) ins done (t.respond st) := by
  obtain ⟨-, hrst, hin, hdone, htr, hkept⟩ := h
  have ⟨_, hwarn, _⟩ := hkept
  exact ⟨rfl, hrst, hin, hdone, by simp [htr, hwarn, hkept.readingPorts], hkept⟩

theorem Attaching.identityRead (h : Attaching s .aIdRd evs (.byte s.cfg.chipId :: ins) done t) :
    ∃ u, step t = .next u ∧ Attaching s .aRstWr (evs ++ [.rd8 s.cfg.regId (.byte s.cfg.chipId)]) ins done u := by
  rw [← h.cfg] at h ⊢
  exact ⟨_, (h.step_eq nofun).trans (execAIdRd_match h.answer (readAnswer_byteWord _)), (h.transacted _).goTo .aRstWr⟩

theorem Attaching.resetWritten (h : Attaching s .aRstWr evs (.answer 0#9 :: ins) done t) :
    ∃ u, step t = .next u ∧ Attaching s .aRstDly (evs ++ [.wr8 s.cfg.regReset s.cfg.resetCmd .ok]) ins done u := by
  rw [← h.cfg]
  exact ⟨_, (h.step_eq nofun).trans (execARstWr_ok h.answer rfl), (h.transacted _).goTo .aRstDly⟩

theorem Attaching.delayed (h : Attaching s .aRstDly evs ins (true :: done) t) :
    ∃ u, step t = .next u ∧ Attaching s .aPollRd (evs ++ [.dly s.cfg.resetDelayMs]) ins done u := by
  rw [← h.cfg]
  have hstep := h.step_eq nofun
  obtain ⟨-, hrst, hin, hdone, htr, hkept⟩ := h
  have hd : t.beginStep.timerDone = true := by simp [State.timerDone, hdone]
  exact ⟨_, hstep.trans (execARstDly_done hd), rfl, by simp [hrst], hin, by simp [hdone], by simp [htr], hkept⟩

theorem Attaching.statusRead {st : Byte} (hst : st &&& s.cfg.imUpdateMask = 0#8)
    (h : Attaching s .aPollRd evs (.byte st :: ins) done t) :
    ∃ u, step t = .next u ∧ Attaching s .aCfgCtrlWr (evs ++ [.rd8 s.cfg.regStatus (.byte st)]) ins done u := by
  rw [← h.cfg] at hst ⊢
  have hexec := execAPollRd_clear h.answer (readAnswer_byteWord st) hst
  exact ⟨_, (h.step_eq nofun).trans hexec, (h.transacted _).goTo .aCfgCtrlWr⟩

theorem Attaching.controlWritten (h : Attaching s .aCfgCtrlWr evs (.answer 0#9 :: ins) done t) :
    ∃ u, step t = .next u ∧
      Attaching s .aCfgConfigWr (evs ++ [.wr8 s.cfg.regCtrlMeas s.cfg.ctrlMeasValue .ok]) ins done u := by
  rw [← h.cfg]
  exact ⟨_, (h.step_eq nofun).trans (execACfgCtrlWr_ok h.answer rfl), (h.transacted _).goTo .aCfgConfigWr⟩

theorem Attaching.configWritten (h : Attaching s .aCfgConfigWr evs (.answer 0#9 :: ins) done t) :
    ∃ u, step t = .next u ∧ u.calIdx = 0 ∧
      Attaching s .aCalRd (evs ++ [.wr8 s.cfg.regConfig s.cfg.configValue .ok]) ins done u := by
  rw [← h.cfg]
  exact ⟨_, (h.step_eq nofun).trans (execACfgConfigWr_ok h.answer rfl), rfl, (h.transacted _).goTo .aCalRd⟩

end

/-! ### The calibration load -/

/-- The first `k` bytes of `b` are in the store, the last of an odd number in `BYTE_LO` (41 R149). -/
def Loaded (b : Vector Byte 24) (k : Nat) (s : State) : Prop :=
  (∀ j : Fin 12, 2 * j.val + 1 < k → s.cal[j.val]'j.isLt = (b[2 * j.val + 1]'(by omega)) ++ (b[2 * j.val]'(by omega))) ∧
  (∀ j : Fin 12, 2 * j.val + 1 = k → s.byteLo = b[2 * j.val]'(by omega))

theorem loaded_zero (b : Vector Byte 24) (s : State) : Loaded b 0 s := ⟨nofun, nofun⟩

theorem Loaded.storeCalByte {b : Vector Byte 24} {s : State} (h : Loaded b s.calIdx.val s) :
    Loaded b (s.calIdx.val + 1) (s.storeCalByte (b[s.calIdx.val]'s.calIdx.isLt)) := by
  obtain ⟨hwords, hlow⟩ := h
  rcases storeCalByte_cases (b[s.calIdx.val]'s.calIdx.isLt) s with ⟨heven, he⟩ | ⟨hodd, he⟩ <;> rw [he]
  · refine ⟨fun j hj => hwords j (by omega), fun j hj => ?_⟩
    have hk : s.calIdx.val = 2 * j.val := by omega
    simp only [hk]
  · refine ⟨fun j hj => ?_, fun j hj => by omega⟩
    have hidx : (calWordIdx s.calIdx).val = s.calIdx.val / 2 := rfl
    by_cases hlast : s.calIdx.val = 2 * j.val + 1
    · have hw : (calWordIdx s.calIdx).val = j.val := by omega
      simp only [hw, Vector.getElem_set_self, hlow j hlast.symm, hlast, u16le]
    · have hne : (calWordIdx s.calIdx).val ≠ j.val := by omega
      rw [Vector.getElem_set_ne _ _ hne]
      exact hwords j (by omega)

/-- The events of the first `k` calibration reads. -/
def calEvents (c : Config) (b : Vector Byte 24) (k : Nat) : List Event :=
  ((List.finRange 24).take k).map fun i => .rd8 (c.calBase + BitVec.ofNat 8 i.val) (.byte (b[i.val]'i.isLt))

theorem calEvents_succ (c : Config) (b : Vector Byte 24) (i : Fin 24) :
    calEvents c b (i.val + 1) = calEvents c b i.val ++ [.rd8 (calAddr c i) (.byte (b[i.val]'i.isLt))] := by
  have hi : i.val < (List.finRange 24).length := by simp
  rw [calEvents, ← List.take_append_getElem hi, List.map_append, List.getElem_finRange]
  rfl

theorem calEvents_all (c : Config) (b : Vector Byte 24) : calEvents c b 24 =
    (List.finRange 24).map fun i => .rd8 (c.calBase + BitVec.ofNat 8 i.val) (.byte (b[i.val]'i.isLt)) := by
  rw [calEvents, List.take_of_length_le (by simp)]

/-- The answers of the calibration reads from the `k`-th on. -/
def calAnswers (b : Vector Byte 24) (k : Nat) : List ChannelInput := (b.toList.drop k).map .byte

theorem calAnswers_cons (b : Vector Byte 24) (i : Fin 24) :
    calAnswers b i.val = .byte (b[i.val]'i.isLt) :: calAnswers b (i.val + 1) := by
  have hi : i.val < b.toList.length := by simp
  rw [calAnswers, List.drop_eq_getElem_cons hi, List.map_cons, Vector.getElem_toList]
  rfl

/-- The ATTACH of `s` has read the calibration bytes below `CAL_IDX` of `t`. -/
def Loading (s : State) (b : Vector Byte 24) (evs : List Event) (rest : List ChannelInput) (done : List Bool) (t : State) :
    Prop :=
  Attaching s .aCalRd (evs ++ calEvents s.cfg b t.calIdx.val) (calAnswers b t.calIdx.val ++ rest) done t ∧
  Loaded b t.calIdx.val t

section
variable {s t : State} {b : Vector Byte 24} {evs : List Event} {rest : List ChannelInput} {done : List Bool}

/-- The next calibration byte: the answer that gives it, and what storing it does to the trace, the inputs and the store. -/
theorem Loading.byteStored (h : Loading s b evs rest done t) :
    ∃ w x, t.beginStep.channelAnswer = some w ∧ readAnswer w = .byte x ∧
      Attaching s .aCalRd (evs ++ calEvents s.cfg b (t.calIdx.val + 1)) (calAnswers b (t.calIdx.val + 1) ++ rest) done
        ((t.beginStep.readDone (calAddr t.cfg t.calIdx) (.byte x)).storeCalByte x) ∧
      Loaded b (t.calIdx.val + 1) ((t.beginStep.readDone (calAddr t.cfg t.calIdx) (.byte x)).storeCalByte x) := by
  obtain ⟨hat, hloaded⟩ := h
  rw [calAnswers_cons, List.cons_append] at hat
  refine ⟨_, _, hat.answer, readAnswer_byteWord _, ?_, Loaded.storeCalByte (s := t.beginStep.readDone _ _) hloaded⟩
  rw [calEvents_succ, ← List.append_assoc, hat.cfg]
  exact (hat.transacted _).storeCalByte _

/-- A byte that is not the last. -/
theorem Loading.next (h : Loading s b evs rest done t) (hi : t.calIdx.val < 23) :
    ∃ u, step t = .next u ∧ u.calIdx.val = t.calIdx.val + 1 ∧ Loading s b evs rest done u := by
  obtain ⟨w, x, hc, ha, hstored⟩ := h.byteStored
  obtain ⟨hat, -⟩ := h
  exact ⟨_, (hat.step_eq nofun).trans (execACalRd_byte hc ha hi), rfl, hstored⟩

/-- The last byte makes the block `Ready` and ends the command. -/
theorem Loading.last (h : Loading s b evs rest done t) (hi : t.calIdx.val = 23) :
    ∃ u, step t = .next u ∧ u.calValid = true ∧ u.lifecycle = .ready ∧ u.rspStatus = .ok ∧ u.rspWarn = s.warn ∧
      Loaded b 24 u ∧
      Attaching s .idle (evs ++ calEvents s.cfg b 24 ++ [.rsp ⟨.ok, s.warn, s.readingPorts⟩]) rest done u := by
  obtain ⟨w, x, hc, ha, hstored, hloaded⟩ := h.byteStored
  obtain ⟨hat, -⟩ := h
  have ⟨_, _, _, _, _, _, hwarn, _⟩ := hstored
  have hend : calAnswers b (23 + 1) = [] := by simp [calAnswers]
  rw [hi] at hstored hloaded
  rw [hend, List.nil_append] at hstored
  exact ⟨_, (hat.step_eq nofun).trans (execACalRd_lastByte hc ha hi), rfl, rfl, rfl, hwarn, hloaded,
    Attaching.respond (t := { State.storeCalByte x _ with calValid := true, lifecycle := .ready }) hstored .ok⟩

theorem Loading.run {n : Nat} (h : Loading s b evs rest done t) (hn : t.calIdx.val + n ≤ 23) :
    ∃ u, Host.Core.run Sys2Proof.core n t = .next u ∧ u.calIdx.val = t.calIdx.val + n ∧ Loading s b evs rest done u := by
  induction n generalizing t with
  | zero => exact ⟨t, rfl, rfl, h⟩
  | succ n ih =>
    obtain ⟨u, hstep, hidx, hu⟩ := h.next (by omega)
    obtain ⟨v, hrun, hidx', hv⟩ := ih hu (by omega)
    exact ⟨v, (run_succ hstep n).trans hrun, by omega, hv⟩

/-- Twenty-four good answers load the store (41 R149, R151 step 7). -/
theorem Attaching.calibrationLoaded (h : Attaching s .aCalRd evs (b.toList.map .byte ++ rest) done t) (hi : t.calIdx = 0) :
    ∃ u, Host.Core.run Sys2Proof.core 24 t = .next u ∧
      u.calValid = true ∧ u.lifecycle = .ready ∧ u.rspStatus = .ok ∧ u.rspWarn = s.warn ∧
      Loaded b 24 u ∧
      Attaching s .idle (evs ++ calEvents s.cfg b 24 ++ [.rsp ⟨.ok, s.warn, s.readingPorts⟩]) rest done u := by
  have hstart : Loading s b evs rest done t := by
    rw [Loading, hi]
    exact ⟨by simpa [calEvents, calAnswers] using h, loaded_zero b t⟩
  obtain ⟨u, hrun, hidx, hu⟩ := hstart.run (n := 23) (by simp [hi])
  obtain ⟨v, hstep, hv⟩ := hu.last (by simp [hidx, hi])
  exact ⟨v, (run_add hrun 1).trans (run_succ hstep 0), hv⟩

end

/-! ### The whole command -/

section
variable {s : State} {b : Vector Byte 24} {ins rest : List ChannelInput} {cmds : List (Option (BitVec 2))} {done : List Bool}

/-- The state in which an `ATTACH` accepted in `s` begins (40 R121, R124). -/
def State.attachAccepted (s : State) : State :=
  { s with
    rst := s.rst.tail, rspValid := false, freeCnt := s.freeCnt + 1, cmdIn := s.cmdIn.tail, warn := 0#2, phase := .aIdRd }

theorem step_attachAccepted (hr : s.rst = []) (hp : s.phase = .idle) (hl : s.lifecycle = .unattached)
    (ho : s.outstanding = none) (hd : s.dlyReq = none) (hc : s.cmdIn = some 0b01#2 :: cmds) :
    step s = .next s.attachAccepted := by
  have hoffered : s.commandOffered = some 0b01#2 := by simp [State.commandOffered, hc]
  have hrst : s.rstNow = false := by simp [State.rstNow, hr]
  have haccept : step s = execAttach s.beginStep.takeCommand := step_offered hrst hp ho hd hoffered
  rw [haccept, execAttach_unattached (s := s.beginStep.takeCommand) hl]
  simp only [State.attachAccepted, State.beginStep, State.takeCommand, State.clearWarn]

theorem attaching_accepted (hr : s.rst = []) : Attaching s.attachAccepted .aIdRd [] s.chIn s.dlyIn s.attachAccepted := by
  refine ⟨rfl, ?_, rfl, rfl, (List.append_nil _).symm, ?_⟩
  · simp [State.attachAccepted, hr]
  · and_intros <;> rfl

/-- The events of an `ATTACH` up to the calibration load (41 R140, R151). -/
def attachEvents (c : Config) (st : Byte) : List Event :=
  [.rd8 c.regId (.byte c.chipId), .wr8 c.regReset c.resetCmd .ok, .dly c.resetDelayMs, .rd8 c.regStatus (.byte st),
    .wr8 c.regCtrlMeas c.ctrlMeasValue .ok, .wr8 c.regConfig c.configValue .ok]

/-- The six micro-operations before the calibration load. -/
theorem Attaching.configured {t : State} {st : Byte} (hst : st &&& s.cfg.imUpdateMask = 0#8)
    (h : Attaching s .aIdRd []
      (.byte s.cfg.chipId :: .answer 0#9 :: .byte st :: .answer 0#9 :: .answer 0#9 :: ins) (true :: done) t) :
    ∃ u, Host.Core.run Sys2Proof.core 6 t = .next u ∧ u.calIdx = 0 ∧
      Attaching s .aCalRd (attachEvents s.cfg st) ins done u := by
  obtain ⟨t1, h1, a1⟩ := h.identityRead
  obtain ⟨t2, h2, a2⟩ := a1.resetWritten
  obtain ⟨t3, h3, a3⟩ := a2.delayed
  obtain ⟨t4, h4, a4⟩ := a3.statusRead hst
  obtain ⟨t5, h5, a5⟩ := a4.controlWritten
  obtain ⟨t6, h6, hi, a6⟩ := a5.configWritten
  exact ⟨t6, by rw [run_succ h1, run_succ h2, run_succ h3, run_succ h4, run_succ h5, run_succ h6]; rfl, hi, a6⟩

end

end Sys2Proof.Machine
end

section
/-! The statements about the host commands: acceptance, the four commands, waiting, the two tables, and how a command ends
(40_host_commands). -/

namespace Sys2Proof.Machine

/-- Settles O14: `NOP` is its acceptance and `respond`. -/
theorem nopAnswersOk : Obligations.NopAnswersOk := ⟨rfl, fun _ => rfl⟩

/-- Settles O15, by the two branches of R124's guard. -/
theorem attachNeedsUnattached : Obligations.AttachNeedsUnattached :=
  ⟨rfl, fun _ h => execAttach_unattached h, fun _ h => execAttach_refused h⟩

/-- Settles O16, by the two branches of R127's guard. -/
theorem readNeedsReady : Obligations.ReadNeedsReady :=
  ⟨rfl, fun _ h => execRead_ready h, fun _ h => execRead_refused h⟩

/-- Settles O17, lifecycle state by lifecycle state. -/
theorem detachInEachLifecycleState : Obligations.DetachInEachLifecycleState :=
  ⟨rfl, fun _ h => execDetach_ready h, fun _ h => execDetach_failed h, fun _ h => execDetach_unattached h⟩

/-- Settles O18: acceptance is the dispatch of the offered command, and a busy block's micro-operations commute with other
commands on the port. -/
theorem commandsAreAcceptedOnlyInIdle : Obligations.CommandsAreAcceptedOnlyInIdle := by
  refine ⟨fun s op ho => ⟨?_, ?_⟩, fun s => execIdle_quiet, fun s => ?_, fun s t hp hr h => ?_, fun s c t hp hr h => ?_⟩
  · exact (execIdle_offered ho).trans (dispatchCommand_eq_exec op _)
  · obtain ⟨t, ht⟩ := execIdle_total s
    have honly := execIdle_onlyResponds ht
    rw [execIdle_offered ho] at ht
    obtain ⟨evs, htr, hreq, -⟩ := honly.appends
    refine ⟨t, (execIdle_offered ho).trans ht, dispatchCommand_warn ht, honly.chReq, honly.dlyReq, evs, htr, ?_⟩
    simpa using hreq
  · exact Bool.eq_iff_iff.mpr (cmdReady_iff.trans decide_eq_true_iff.symm)
  · rw [step_busy hr hp] at h
    obtain ⟨hcmd, -⟩ := exec_busy_inputs hp h
    exact hcmd
  · rw [step_busy hr hp] at h
    rw [step_busy (s := s.withCommands c) hr hp]
    exact (exec_withCommands hp c s.beginStep).trans (congrArg (answerWithCommands c) h)

/-- Settles O31: a silent agent leaves the micro-operation of a busy block, or the bare transaction or delay, waiting. -/
theorem silentAgentHoldsTheRequest : Obligations.SilentAgentHoldsTheRequest := by
  refine ⟨fun _ _ => rfl, fun s q hr hq hc => ?_, fun s ms hr hms hd => ?_, fun s addr hc => ?_, fun s addr v hc => ?_,
    fun s ms hd => ?_⟩
  · have hbusy : s.phase ≠ .idle := fun hp => by simp [State.phaseRequest, hp] at hq
    exact (step_busy hr hbusy).trans (exec_of_silent_channel (s := s.beginStep) hq hc)
  · have hbusy : s.phase ≠ .idle := fun hp => by simp [State.phaseDelay, hp] at hms
    exact (step_busy hr hbusy).trans (exec_of_silent_timer (s := s.beginStep) hms hd)
  · exact memRead_silent hc addr fun _ s1 => .next s1
  · exact memWrite_silent hc addr v fun _ s1 => .next s1
  · exact delay_silent hd ms .next

/-- Settles O50: a waiting step keeps `PHASE`, a finishing one takes the edge of its row. -/
theorem phaseTransitionsAreComplete : Obligations.PhaseTransitionsAreComplete := by
  intro s t inv hr h
  cases hw : s.waiting with
  | true =>
    obtain ⟨hphase, -⟩ := inv.step_waiting hr hw h
    exact hphase
  | false => exact (inv.step_finished hr hw h).phase

/-- Settles O51, in the same way; from `Ready` no row leads to `Failed`. -/
theorem lifecycleTransitionsAreComplete : Obligations.LifecycleTransitionsAreComplete := by
  refine ⟨fun s t inv hr h => inv.step_lifecycle hr h, fun s t inv hl h => ?_, fun s hr => ⟨_, step_of_rst hr, rfl⟩⟩
  cases hr : s.rstNow with
  | true => rw [step_of_rst hr] at h; cases h; nofun
  | false =>
    rw [inv.step_lifecycle hr h]
    split
    · rw [hl]; nofun
    · exact lifecycleTable_of_ready hl

/-- Settles O52: the bound is computed from the micro-operation the step goes on to. -/
theorem everyFinishedStepShortensTheCommand : Obligations.EveryFinishedStepShortensTheCommand := by
  intro s t inv hr hp h
  refine ⟨fun hw => (inv.step_finished hr hw h).remaining hp, fun hw => ?_⟩
  obtain ⟨-, -, hrem, -⟩ := inv.step_waiting hr hw h
  exact hrem

/-- Settles O13: a waiting step responds to nothing, a finishing one responds where it ends in `IDLE`, and a prompt command gets
there because every step shortens it. -/
theorem everyCommandRespondsOnce : Obligations.EveryCommandRespondsOnce := by
  refine ⟨fun _ _ => rfl, fun s t inv hr h => ?_, fun s inv hp hprompt => ?_⟩
  · cases hw : s.waiting with
    | true =>
      obtain ⟨-, -, -, hv, htr⟩ := inv.step_waiting hr hw h
      exact ⟨by simp [hv], [], by simp, by simp [hv, htr]⟩
    | false =>
      have f := inv.step_finished hr hw h
      exact ⟨by simpa using f.responds, f.trace⟩
  · obtain ⟨n, t, hn, hresp⟩ := inv.responds_of_prompt hp le_rfl hprompt
    obtain ⟨reqs, hreq, htr⟩ := hresp.trace
    rw [State.responseEvents, if_pos hresp.rspValid] at htr
    exact ⟨n, t, reqs, hn, hresp.run, hresp.phase, hresp.rspValid, hreq, htr⟩

/-- Settles O53: an idle block is there already, a busy one responds within its bound; the bounds of the four commands are what
remains after acceptance. -/
theorem everyCommandFinishes : Obligations.EveryCommandFinishes := by
  refine ⟨fun s inv hprompt => ?_, fun s t h => ?_, fun s t h => ?_, fun s t h => ?_, fun s t h => ?_, by decide,
    fun s t inv hr hw h => ?_⟩
  · by_cases hp : s.phase = .idle
    · exact ⟨0, s, Nat.zero_le _, rfl, hp⟩
    · obtain ⟨n, t, hn, hresp⟩ := inv.responds_of_prompt hp le_rfl hprompt
      exact ⟨n, t, hn, hresp.run, hresp.phase⟩
  · rw [execNop_cases h]; rfl
  · rcases execAttach_cases h with ⟨-, rfl⟩ | ⟨-, rfl⟩
    · exact Nat.zero_le _
    · simp [State.remaining]; omega
  · rcases execRead_cases h with ⟨-, rfl⟩ | ⟨-, rfl⟩ <;> simp [State.remaining]
  · rcases execDetach_cases h with ⟨-, rfl⟩ | ⟨-, rfl⟩ | ⟨-, -, rfl⟩ <;> simp [State.remaining]
  · obtain ⟨hphase, -⟩ := inv.step_waiting hr hw h
    exact hphase

/-- Settles O58: one acceptance, six micro-operations with good answers and the calibration load. -/
theorem attachWithGoodAnswersReachesReady : Obligations.AttachWithGoodAnswersReachesReady := by
  intro s b st cmds rest done hp hl hreq hpend hdly hr hst hcmd hdone hin
  have hstep := step_attachAccepted hr hp hl (outstanding_eq_none.mpr ⟨hreq, hpend⟩) hdly hcmd
  have hat := attaching_accepted hr
  rw [hin, hdone] at hat
  obtain ⟨t, hrun, hi, hat⟩ := Attaching.configured (s := s.attachAccepted) hst hat
  obtain ⟨u, hload, hcv, hready, hok, hwarn, ⟨hwords, -⟩, hat⟩ := hat.calibrationLoaded hi
  obtain ⟨hphase, -, -, -, htr, -, -, herr, hrawb, hrawT, hrawP, htFine, htNew, htOut, hpress, hpa, hvalid⟩ := hat
  refine ⟨u, (run_succ hstep 30).trans ((run_add hrun 24).trans hload), hready, hcv, hphase, hok, hwarn, herr, hvalid, htOut,
    hpress, hpa, hrawb, hrawT, hrawP, htFine, htNew, fun k => hwords k (by omega), ?_⟩
  rw [htr, calEvents_all, ← List.append_assoc, ← List.append_assoc]
  rfl

end Sys2Proof.Machine
end

section
/-! SUPPORT. The other outcomes of ATTACH's micro-operations: a silent agent, a transport error, another identity, a status bit
that is set and a poll delay (41 R141 to R148), and a calibration byte's place in the store (R149). -/

namespace Sys2Proof.Machine

/-! ### A silent agent -/

theorem execAIdRd_silent {s : State} (hc : s.channelAnswer = none) :
    execAIdRd s = .next (s.awaitChannel (rd8Word s.cfg.regId)) :=
  memRead_silent hc _ _

theorem execARstWr_silent {s : State} (hc : s.channelAnswer = none) :
    execARstWr s = .next (s.awaitChannel (wr8Word s.cfg.regReset s.cfg.resetCmd)) :=
  memWrite_silent hc _ _ _

theorem execARstDly_silent {s : State} (hd : s.timerDone = false) :
    execARstDly s = .next (s.awaitTimer s.cfg.resetDelayMs) :=
  delay_silent hd _ _

theorem execAPollRd_silent {s : State} (hc : s.channelAnswer = none) :
    execAPollRd s = .next (s.awaitChannel (rd8Word s.cfg.regStatus)) :=
  memRead_silent hc _ _

theorem execAPollDly_silent {s : State} (hd : s.timerDone = false) :
    execAPollDly s = .next (s.awaitTimer s.cfg.pollDelayMs) :=
  delay_silent hd _ _

theorem execACfgCtrlWr_silent {s : State} (hc : s.channelAnswer = none) :
    execACfgCtrlWr s = .next (s.awaitChannel (wr8Word s.cfg.regCtrlMeas s.cfg.ctrlMeasValue)) :=
  memWrite_silent hc _ _ _

theorem execACfgConfigWr_silent {s : State} (hc : s.channelAnswer = none) :
    execACfgConfigWr s = .next (s.awaitChannel (wr8Word s.cfg.regConfig s.cfg.configValue)) :=
  memWrite_silent hc _ _ _

/-! ### An answer or a completion -/

theorem execAIdRd_err {s : State} {w : BitVec 9} (hc : s.channelAnswer = some w) (ha : readAnswer w = .err) :
    execAIdRd s = .next ((s.readDone s.cfg.regId .err).fail .transportError) := by
  unfold execAIdRd
  rw [memRead_answered hc, ha]

theorem execAIdRd_mismatch {s : State} {w : BitVec 9} {b : Byte} (hc : s.channelAnswer = some w)
    (ha : readAnswer w = .byte b) (hb : b ≠ s.cfg.chipId) :
    execAIdRd s = .next ((s.readDone s.cfg.regId (.byte b)).fail .identityMismatch) := by
  unfold execAIdRd
  rw [memRead_answered hc, ha]
  exact if_pos hb

theorem execARstWr_err {s : State} {w : BitVec 9} (hc : s.channelAnswer = some w) (ha : writeAnswer w = .err) :
    execARstWr s = .next ((s.writeDone s.cfg.regReset s.cfg.resetCmd .err).fail .transportError) := by
  unfold execARstWr
  rw [memWrite_answered hc, ha]

theorem execAPollRd_err {s : State} {w : BitVec 9} (hc : s.channelAnswer = some w) (ha : readAnswer w = .err) :
    execAPollRd s = .next ((s.readDone s.cfg.regStatus .err).fail .transportError) := by
  unfold execAPollRd
  rw [memRead_answered hc, ha]

/-- A failing poll (41 R144). -/
theorem execAPollRd_set {s : State} {w : BitVec 9} {b : Byte} (hc : s.channelAnswer = some w)
    (ha : readAnswer w = .byte b) (hb : b &&& s.cfg.imUpdateMask ≠ 0#8) :
    execAPollRd s = .next { s.readDone s.cfg.regStatus (.byte b) with pollCnt := s.pollCnt + 1#4, phase := .aPollDly } := by
  unfold execAPollRd
  rw [memRead_answered hc, ha]
  exact if_neg hb

/-- The delay after the last failing poll (41 R145, R146). -/
theorem execAPollDly_exhausted {s : State} (hd : s.timerDone = true) (hcnt : s.pollCnt = s.cfg.pollMax) :
    execAPollDly s =
      .next { s.delayDone s.cfg.pollDelayMs with warn := s.warn ||| pollExhausted, phase := .aCfgCtrlWr } := by
  unfold execAPollDly State.setWarn
  rw [delay_done hd]
  exact if_pos hcnt

/-- The delay after any other failing poll (41 R145). -/
theorem execAPollDly_again {s : State} (hd : s.timerDone = true) (hcnt : s.pollCnt ≠ s.cfg.pollMax) :
    execAPollDly s = .next { s.delayDone s.cfg.pollDelayMs with phase := .aPollRd } := by
  unfold execAPollDly
  rw [delay_done hd]
  exact if_neg hcnt

theorem execACfgCtrlWr_err {s : State} {w : BitVec 9} (hc : s.channelAnswer = some w) (ha : writeAnswer w = .err) :
    execACfgCtrlWr s =
      .next ((s.writeDone s.cfg.regCtrlMeas s.cfg.ctrlMeasValue .err).fail .transportError) := by
  unfold execACfgCtrlWr
  rw [memWrite_answered hc, ha]

theorem execACfgConfigWr_err {s : State} {w : BitVec 9} (hc : s.channelAnswer = some w) (ha : writeAnswer w = .err) :
    execACfgConfigWr s = .next ((s.writeDone s.cfg.regConfig s.cfg.configValue .err).fail .transportError) := by
  unfold execACfgConfigWr
  rw [memWrite_answered hc, ha]

/-! ### A calibration byte's place in the store -/

theorem storeCalByte_even {s : State} (hi : s.calIdx.val % 2 = 0) (b : Byte) :
    s.storeCalByte b = { s with byteLo := b } := if_pos hi

theorem storeCalByte_odd {s : State} (hi : s.calIdx.val % 2 = 1) (b : Byte) :
    s.storeCalByte b = { s with cal := s.cal.set (s.calIdx.val / 2) (b ++ s.byteLo) (by omega) } :=
  if_neg (by omega)

theorem storeCalByte_last {s : State} (hi : s.calIdx.val = 23) (b : Byte) :
    s.storeCalByte b = { s with cal := s.cal.set 11 (b ++ s.byteLo) } := by
  rw [storeCalByte_odd (by omega)]
  simp only [hi]

end Sys2Proof.Machine
end

section
/-! SUPPORT. A status register whose bit never clears (41 R144 to R146), and the end of the calibration load (R149). -/

namespace Sys2Proof.Machine

/-! ### One failing poll, the last one or not -/

section
variable {s : State} {b : Byte} {ins : List ChannelInput} {done : List Bool}

/-- The state after a poll that answers `b`, its bit set, has failed. -/
def State.pollFailed (b : Byte) (s : State) : State :=
  { s.beginStep.readDone s.cfg.regStatus (.byte b) with pollCnt := s.pollCnt + 1#4, phase := .aPollDly }

/-- The state after the delay that follows a poll which was not the last. -/
def State.pollAgain (s : State) : State := { s.beginStep.delayDone s.cfg.pollDelayMs with phase := .aPollRd }

/-- The state after the delay that follows the last poll. -/
def State.pollGivenUp (s : State) : State :=
  { s.beginStep.delayDone s.cfg.pollDelayMs with warn := s.warn ||| pollExhausted, phase := .aCfgCtrlWr }

theorem step_pollFailed (hp : s.phase = .aPollRd) (hr : s.rst = []) (hb : b &&& s.cfg.imUpdateMask ≠ 0#8)
    (hin : s.chIn = .byte b :: ins) : step s = .next (s.pollFailed b) := by
  have hstep := step_busy (s := s) (by simp [State.rstNow, hr]) (by simp [hp])
  rw [hp] at hstep
  have hc : s.beginStep.channelAnswer = some (0#1 ++ b) := channelAnswer_of_ready (s := s.beginStep) hin
  exact hstep.trans (execAPollRd_set hc (readAnswer_byteWord b) hb)

theorem step_pollDelay (hp : s.phase = .aPollDly) (hr : s.rst = []) : step s = execAPollDly s.beginStep := by
  have hstep := step_busy (s := s) (by simp [State.rstNow, hr]) (by simp [hp])
  rwa [hp] at hstep

theorem step_pollAgain (hp : s.phase = .aPollDly) (hr : s.rst = []) (hdone : s.dlyIn = true :: done)
    (hcnt : s.pollCnt ≠ s.cfg.pollMax) : step s = .next s.pollAgain := by
  have hd : s.beginStep.timerDone = true := by simp [State.timerDone, hdone]
  exact (step_pollDelay hp hr).trans (execAPollDly_again hd hcnt)

theorem step_pollGivenUp (hp : s.phase = .aPollDly) (hr : s.rst = []) (hdone : s.dlyIn = true :: done)
    (hcnt : s.pollCnt = s.cfg.pollMax) : step s = .next s.pollGivenUp := by
  have hd : s.beginStep.timerDone = true := by simp [State.timerDone, hdone]
  exact (step_pollDelay hp hr).trans (execAPollDly_exhausted hd hcnt)

end

/-! ### Every poll that is left -/

/-- The events of `m` failing polls. -/
def pollEvents (c : Config) (b : Byte) (m : Nat) : List Event :=
  (List.replicate m [Event.rd8 c.regStatus (.byte b), .dly c.pollDelayMs]).flatten

theorem pollEvents_succ (c : Config) (b : Byte) (m : Nat) :
    pollEvents c b (m + 1) = [.rd8 c.regStatus (.byte b), .dly c.pollDelayMs] ++ pollEvents c b m := by
  rw [pollEvents, List.replicate_succ, List.flatten_cons, pollEvents]

/-- The polling of `s` has ended in `t` without success after `m` more polls, all of which read `b`; `ins` and `done` are still to
come from the agents. -/
structure PollsExhausted (s : State) (b : Byte) (m : Nat) (ins : List ChannelInput) (done : List Bool) (t : State) :
    Prop where
  phase : t.phase = .aCfgCtrlWr
  lifecycle : t.lifecycle = s.lifecycle
  warn : t.warn = s.warn ||| pollExhausted
  pollCnt : t.pollCnt = s.cfg.pollMax
  rspStatus : t.rspStatus = s.rspStatus
  lastErr : t.lastErr = s.lastErr
  chIn : t.chIn = ins
  dlyIn : t.dlyIn = done
  trace : t.trace = s.trace ++ pollEvents s.cfg b m

section
variable {s t : State} {b : Byte} {m : Nat} {ins : List ChannelInput} {done : List Bool}

theorem pollsExhausted_last (hcnt : s.pollCnt + 1#4 = s.cfg.pollMax) (hin : s.chIn = .byte b :: ins)
    (hdone : s.dlyIn = true :: done) : PollsExhausted s b 1 ins done (s.pollFailed b).pollGivenUp := by
  constructor <;> simp [State.pollFailed, State.pollGivenUp, pollEvents, hcnt, hin, hdone]

/-- A failing poll with its delay goes in front of those that follow it. -/
theorem PollsExhausted.behind_poll (h : PollsExhausted (s.pollFailed b).pollAgain b m ins done t) :
    PollsExhausted s b (m + 1) ins done t := by
  obtain ⟨hphase, hlife, hwarn, hcnt, hstatus, herr, hin, hdone, htr⟩ := h
  constructor <;>
    simp [State.pollFailed, State.pollAgain, pollEvents_succ, hphase, hlife, hwarn, hcnt, hstatus, herr, hin, hdone, htr]

/-- By induction on the polls left after this one: each adds 1 to `POLL_CNT`, and the last brings it to `POLL_MAX`. -/
theorem run_pollsExhausted (hp : s.phase = .aPollRd) (hr : s.rst = []) (hb : b &&& s.cfg.imUpdateMask ≠ 0#8)
    (hcnt : s.pollCnt.toNat + (m + 1) = s.cfg.pollMax.toNat)
    (hin : s.chIn = List.replicate (m + 1) (.byte b) ++ ins) (hdone : s.dlyIn = List.replicate (m + 1) true ++ done) :
    ∃ t, Host.Core.run Sys2Proof.core (2 * m + 2) s = .next t ∧ PollsExhausted s b (m + 1) ins done t := by
  induction m generalizing s with
  | zero =>
    have hlast : s.pollCnt + 1#4 = s.cfg.pollMax := by bv_omega
    have hread := step_pollFailed hp hr hb hin
    have hdelay := step_pollGivenUp (s := s.pollFailed b) rfl (by simp [State.pollFailed, hr]) hdone hlast
    exact ⟨_, (run_succ hread 1).trans (run_succ hdelay 0), pollsExhausted_last hlast hin hdone⟩
  | succ m ih =>
    have hmax := s.cfg.pollMax.isLt
    have hnext : (s.pollCnt + 1#4).toNat + (m + 1) = s.cfg.pollMax.toNat := by bv_omega
    have hmore : s.pollCnt + 1#4 ≠ s.cfg.pollMax := fun h => by rw [h] at hnext; omega
    have hread := step_pollFailed hp hr hb hin
    have hdelay := step_pollAgain (s := s.pollFailed b) rfl (by simp [State.pollFailed, hr]) hdone hmore
    obtain ⟨t, hrun, ht⟩ := ih (s := (s.pollFailed b).pollAgain) rfl (by simp [State.pollFailed, State.pollAgain, hr])
      (by simpa [State.pollFailed, State.pollAgain] using hb) (by simpa [State.pollFailed, State.pollAgain] using hnext)
      (by simp [State.pollFailed, State.pollAgain, hin, List.replicate_succ])
      (by simp [State.pollFailed, State.pollAgain, hdone, List.replicate_succ])
    exact ⟨t, (run_succ hread _).trans ((run_succ hdelay _).trans hrun), ht.behind_poll⟩

end

/-! ### The calibration load from its first byte -/

theorem attaching_self {s : State} (hr : s.rst = []) : Attaching s s.phase [] s.chIn s.dlyIn s := by
  refine ⟨rfl, hr, rfl, rfl, (List.append_nil _).symm, ?_⟩
  and_intros <;> rfl

section
variable {s t u : State} {b : Vector Byte 24} {evs : List Event} {rest : List ChannelInput} {done : List Bool}

theorem Attaching.loading (h : Attaching s .aCalRd evs (b.toList.map .byte ++ rest) done t) (hi : t.calIdx = 0) :
    Loading s b evs rest done t := by
  rw [Loading, hi]
  exact ⟨by simpa [calEvents, calAnswers] using h, loaded_zero b t⟩

/-- The response of the last byte is on the port (40 R122). -/
theorem Loading.last_rspValid (h : Loading s b evs rest done t) (hi : t.calIdx.val = 23) (hstep : step t = .next u) :
    u.rspValid = true := by
  obtain ⟨w, x, hc, ha, -⟩ := h.byteStored
  obtain ⟨hat, -⟩ := h
  have hlast := (hat.step_eq nofun).trans (execACalRd_lastByte hc ha hi)
  rw [Host.Outcome.next.inj (hstep.symm.trans hlast)]
  rfl

end

end Sys2Proof.Machine
end

section
/-! The statements about ATTACH's micro-operations, the poll that never succeeds and the calibration load
(41_init_sequencer). -/

namespace Sys2Proof.Machine

/-- Settles O19: the answer is `Err`, another byte or `CHIP_ID`. -/
theorem identityReadOutcomes : Obligations.IdentityReadOutcomes :=
  ⟨rfl, fun _ hc => execAIdRd_silent hc, fun _ _ hc =>
    ⟨fun ha => execAIdRd_err hc ha, fun _ ha hb => execAIdRd_mismatch hc ha hb, fun ha => execAIdRd_match hc ha⟩⟩

/-- Settles O20: `STATE` waits for the acknowledgement, `Err` or `Ok`. -/
theorem resetWriteOutcomes : Obligations.ResetWriteOutcomes :=
  ⟨rfl, fun _ hc => execARstWr_silent hc, fun _ _ hc =>
    ⟨fun ha => execARstWr_err hc ha, fun ha => execARstWr_ok hc ha⟩⟩

/-- Settles O21: a silent timer leaves the delay on its port. -/
theorem resetDelayPrecedesAnyAccess : Obligations.ResetDelayPrecedesAnyAccess :=
  ⟨rfl, fun _ hd => execARstDly_done hd, fun _ hd => execARstDly_silent hd⟩

/-- Settles O22: the answer is `Err`, a byte with the masked bit clear or one with it set. -/
theorem statusReadOutcomes : Obligations.StatusReadOutcomes :=
  ⟨rfl, fun _ hc => execAPollRd_silent hc, fun _ _ hc =>
    ⟨fun ha => execAPollRd_err hc ha, fun _ ha hb => execAPollRd_clear hc ha hb,
      fun _ ha hb => execAPollRd_set hc ha hb⟩⟩

/-- Settles O23: a completed delay compares `POLL_CNT` with `POLL_MAX`. -/
theorem pollDelayOutcomes : Obligations.PollDelayOutcomes :=
  ⟨rfl, fun _ hd => execAPollDly_silent hd, fun _ hd =>
    ⟨fun hcnt => execAPollDly_exhausted hd hcnt, fun hcnt => execAPollDly_again hd hcnt⟩⟩

/-- Settles O24, write by write. -/
theorem configurationWriteOutcomes : Obligations.ConfigurationWriteOutcomes :=
  ⟨rfl, fun _ hc => execACfgCtrlWr_silent hc, rfl, fun _ hc => execACfgConfigWr_silent hc, fun _ _ hc =>
    ⟨fun ha => ⟨execACfgCtrlWr_err hc ha, execACfgConfigWr_err hc ha⟩,
      fun ha => ⟨execACfgCtrlWr_ok hc ha, execACfgConfigWr_ok hc ha⟩⟩⟩

/-- Settles O25: an error, an even byte, an odd byte, or the last byte. -/
theorem calibrationReadOutcomes : Obligations.CalibrationReadOutcomes := by
  refine ⟨rfl, fun _ hc => execACalRd_silent hc, fun s w hc => ⟨fun ha => execACalRd_err hc ha, fun b ha => ⟨?_, ?_, ?_⟩⟩⟩
  · intro hi heven
    refine (execACalRd_byte hc ha hi).trans ?_
    rw [storeCalByte_even (s := s.readDone _ _) heven]
    rfl
  · intro hi hodd
    refine (execACalRd_byte hc ha hi).trans ?_
    rw [storeCalByte_odd (s := s.readDone _ _) hodd]
    rfl
  · intro hi
    refine (execACalRd_lastByte hc ha hi).trans ?_
    rw [storeCalByte_last (s := s.readDone _ _) hi, calAddr, hi]
    simp only [State.respond, State.record_trace, List.append_assoc, List.singleton_append]
    rfl

/-- Settles O57: the polls left at the first one are `POLL_MAX`, which is at least 1, and the invariant knows the lifecycle
state of a poll. -/
theorem exhaustedPollProceedsWithAWarning : Obligations.ExhaustedPollProceedsWithAWarning := by
  intro s b rest done inv hp hcnt hr hb hin hdone
  have hlife : s.lifecycle = .reset := by simpa [phaseLifecycle, hp] using inv.lifecycleOfPhase
  have hpos : 0 < s.cfg.pollMax.toNat := by simpa [hcnt] using inv.pollReadBound hp
  obtain ⟨m, hm⟩ := Nat.exists_eq_add_one.mpr hpos
  rw [hm] at hin hdone
  obtain ⟨t, hrun, ht⟩ := run_pollsExhausted hp hr hb (by simp [hcnt, hm]) hin hdone
  rw [hm, Nat.mul_add_one]
  exact ⟨t, hrun, ht.phase, ht.lifecycle.trans hlife, ht.warn, ht.pollCnt, ht.rspStatus, ht.lastErr, ht.chIn, ht.dlyIn,
    ht.trace⟩

/-- Settles O56: twenty-three bytes leave the load at the last one, which responds. -/
theorem calibrationLoadFillsTheStore : Obligations.CalibrationLoadFillsTheStore := by
  intro s b rest hp hi hr hin
  have hat := attaching_self hr
  rw [hp, hin] at hat
  obtain ⟨t, hrun, hidx, ht⟩ := (hat.loading hi).run (n := 23) (by simp [hi])
  have hlast : t.calIdx.val = 23 := by simp [hidx, hi]
  obtain ⟨u, hstep, hcv, hready, hok, hwarn, ⟨hwords, -⟩, hdone⟩ := ht.last hlast
  obtain ⟨hphase, -, hrest, -, htr, -⟩ := hdone
  refine ⟨u, (run_add hrun 1).trans (run_succ hstep 0), fun k => hwords k (by omega), hcv, hready, hphase, hok, hwarn,
    ht.last_rspValid hlast hstep, hrest, ?_⟩
  rw [htr, calEvents_all, List.nil_append, ← List.append_assoc]

end Sys2Proof.Machine
end

section
/-! SUPPORT. The outcomes of R_RAW_RD and D_SLEEP_WR (42 R172, R174, R176), the two engine steps that follow the sixth byte
(43 R200, R210), and the integer value of a sample (42 R173). -/

namespace Sys2Proof.Machine

/-! ### One raw byte -/

theorem execRRawRd_silent {s : State} (hc : s.channelAnswer = none) :
    execRRawRd s = .next (s.awaitChannel (rd8Word (rawAddr s.cfg s.rawIdx))) :=
  memRead_silent hc _ _

theorem execRRawRd_err {s : State} {w : BitVec 9} (hc : s.channelAnswer = some w) (ha : readAnswer w = .err) :
    execRRawRd s = .next ((s.readDone (rawAddr s.cfg s.rawIdx) .err).respond .transportError) := by
  unfold execRRawRd
  rw [memRead_answered hc, ha]

/-- A raw byte that is not the last (42 R172). -/
theorem execRRawRd_byte {s : State} {w : BitVec 9} {b : Byte} (hc : s.channelAnswer = some w)
    (ha : readAnswer w = .byte b) (hi : s.rawIdx.val < 5) :
    execRRawRd s = .next { s.readDone (rawAddr s.cfg s.rawIdx) (.byte b) with
      rawb := s.rawb.set s.rawIdx.val b s.rawIdx.isLt, rawIdx := ⟨s.rawIdx.val + 1, by omega⟩ } := by
  unfold execRRawRd
  rw [memRead_answered hc, ha]
  exact dif_pos hi

/-- The last raw byte (42 R172). -/
theorem execRRawRd_lastByte {s : State} {w : BitVec 9} {b : Byte} (hc : s.channelAnswer = some w)
    (ha : readAnswer w = .byte b) (hi : s.rawIdx.val = 5) :
    execRRawRd s = .next { s.readDone (rawAddr s.cfg s.rawIdx) (.byte b) with
      rawb := s.rawb.set s.rawIdx.val b s.rawIdx.isLt, phase := .rCompT } := by
  unfold execRRawRd
  rw [memRead_answered hc, ha]
  exact dif_neg (by omega)

/-! ### The sleep write -/

theorem execDSleepWr_silent {s : State} (hc : s.channelAnswer = none) :
    execDSleepWr s = .next (s.awaitChannel (wr8Word s.cfg.regCtrlMeas s.cfg.sleepValue)) :=
  memWrite_silent hc _ _ _

theorem execDSleepWr_err {s : State} {w : BitVec 9} (hc : s.channelAnswer = some w) (ha : writeAnswer w = .err) :
    execDSleepWr s = .next ({ (s.writeDone s.cfg.regCtrlMeas s.cfg.sleepValue .err).setWarn sleepWriteFailed with
      lifecycle := .unattached, calValid := false }.respond .ok) := by
  unfold execDSleepWr
  rw [memWrite_answered hc, ha]

theorem execDSleepWr_ok {s : State} {w : BitVec 9} (hc : s.channelAnswer = some w) (ha : writeAnswer w = .ok) :
    execDSleepWr s = .next ({ s.writeDone s.cfg.regCtrlMeas s.cfg.sleepValue .ok with
      lifecycle := .unattached, calValid := false }.respond .ok) := by
  unfold execDSleepWr
  rw [memWrite_answered hc, ha]

/-! ### The engine's two steps -/

section
variable {s : State} {p : Phase} {ct : S64 × S64} {cp : S64 × Bool}

/-- With no reset to come, a busy block's step is the micro-operation of its phase. -/
theorem step_of_phase (hp : s.phase = p) (hb : p ≠ .idle) (hr : s.rst = []) : step s = exec (phaseInstr p) s.beginStep := by
  subst hp
  exact step_busy (by simp [State.rstNow, hr]) hb

/-- The state after a temperature step that computed `ct` (43 R200). -/
def State.temperatureComputed (ct : S64 × S64) (s : State) : State :=
  { s.beginStep with
    rawT := rawTemp s.cfg.readOrder s.rawb, tFine := ct.1, tempNew := ct.2, phase := .rCompP }

/-- The state after a pressure step that computed `cp` (43 R210, R218). -/
def State.readingPublished (cp : S64 × Bool) (s : State) : State :=
  ({ s.beginStep with rawP := rawPress s.cfg.readOrder s.rawb }.publish s.tempNew cp.1).respond (readStatus cp.2)

theorem step_temperatureComputed (hp : s.phase = .rCompT) (hr : s.rst = [])
    (hct : compTCal (rawTemp s.cfg.readOrder s.rawb) s.cal = ct) : step s = .next (s.temperatureComputed ct) := by
  rw [step_of_phase hp nofun hr, ← hct]
  rfl

theorem step_readingPublished (hp : s.phase = .rCompP) (hr : s.rst = [])
    (hcp : compPCal (rawPress s.cfg.readOrder s.rawb) s.tFine s.cal = cp) : step s = .next (s.readingPublished cp) := by
  rw [step_of_phase hp nofun hr, ← hcp]
  rfl

/-- The engine's two steps ask no agent for anything. -/
theorem run_engine (hp : s.phase = .rCompT) (hr : s.rst = [])
    (hct : compTCal (rawTemp s.cfg.readOrder s.rawb) s.cal = ct)
    (hcp : compPCal (rawPress s.cfg.readOrder s.rawb) ct.1 s.cal = cp) :
    Host.Core.run Sys2Proof.core 2 s = .next ((s.temperatureComputed ct).readingPublished cp) := by
  have htemp := step_temperatureComputed hp hr hct
  have hpress := step_readingPublished (s := s.temperatureComputed ct) rfl (by simp [State.temperatureComputed, hr]) hcp
  exact (run_succ htemp 1).trans (run_succ hpress 0)

theorem readingPublished_trace : ((s.temperatureComputed ct).readingPublished cp).trace =
    s.trace ++ [.rsp ⟨readStatus cp.2, s.warn, some ⟨ct.2, cp.1, sdiv64 cp.1 256#64⟩⟩] := rfl

end

/-! ### The sample -/

theorem raw_toNat (m l x : Byte) : (raw m l x).toNat = m.toNat * 4096 + l.toNat * 16 + x.toNat / 16 := by
  have hx : (x.extractLsb' 4 4).toNat = x.toNat / 16 := by
    rw [BitVec.extractLsb'_toNat, Nat.shiftRight_eq_div_pow]
    exact Nat.mod_eq_of_lt (by have := x.isLt; omega)
  rw [raw, BitVec.toNat_append, ← Nat.shiftLeft_add_eq_or_of_lt (x.extractLsb' 4 4).isLt, hx, BitVec.toNat_append,
    ← Nat.shiftLeft_add_eq_or_of_lt l.isLt, Nat.shiftLeft_eq, Nat.shiftLeft_eq]
  omega

end Sys2Proof.Machine
end

section
/-! SUPPORT. A READ whose first bytes have come (42 R172, R175): what it has recorded, what it leaves alone, and where it goes
with the next answer. -/

namespace Sys2Proof.Machine

/-! ### The events of the raw reads -/

/-- Of a list that covers the first indices below `n`, one element more is one value more. -/
theorem filterMap_finRange_concat {α β : Type} {n : Nat} (f : Fin n → α → β) (l : List α) (a : α) (h : l.length < n) :
    (List.finRange n).filterMap (fun i => (l ++ [a])[i.val]?.map (f i)) =
      (List.finRange n).filterMap (fun i => l[i.val]?.map (f i)) ++ [f ⟨l.length, h⟩ a] := by
  induction l generalizing n with
  | nil =>
    obtain ⟨n, rfl⟩ := Nat.exists_eq_add_one.mpr h
    simp [List.finRange_succ, List.filterMap_map]
  | cons x l ih =>
    obtain ⟨n, rfl⟩ := Nat.exists_eq_add_one.mpr (Nat.zero_lt_of_lt h)
    have htail := ih (fun i => f i.succ) (Nat.lt_of_succ_lt_succ h)
    simpa [List.finRange_succ, List.filterMap_map, Function.comp_def] using htail

/-- The events of the raw reads that gave `bs`. -/
def rawEvents (c : Config) (bs : List Byte) : List Event :=
  (List.finRange 6).filterMap fun i => bs[i.val]?.map fun b => .rd8 (rawAddr c i) (.byte b)

theorem rawEvents_concat (c : Config) (bs : List Byte) (b : Byte) (h : bs.length < 6) :
    rawEvents c (bs ++ [b]) = rawEvents c bs ++ [.rd8 (rawAddr c ⟨bs.length, h⟩) (.byte b)] :=
  filterMap_finRange_concat (fun i b => Event.rd8 (rawAddr c i) (.byte b)) bs b h

theorem rawEvents_all (c : Config) (b : Vector Byte 6) : rawEvents c b.toList =
    [.rd8 (rawAddr c 0) (.byte b[0]), .rd8 (rawAddr c 1) (.byte b[1]), .rd8 (rawAddr c 2) (.byte b[2]),
      .rd8 (rawAddr c 3) (.byte b[3]), .rd8 (rawAddr c 4) (.byte b[4]), .rd8 (rawAddr c 5) (.byte b[5])] := by
  simp [rawEvents, List.finRange_succ]

/-! ### How far a READ has got -/

/-- What the raw reads leave alone: the parameters, `STATE`, the store, the warnings, `LAST_ERR`, the engine's registers, the
outputs and the commands still to come. -/
structure KeptByRawReads (s t : State) : Prop where
  cfg : t.cfg = s.cfg
  lifecycle : t.lifecycle = s.lifecycle
  cal : t.cal = s.cal
  calValid : t.calValid = s.calValid
  warn : t.warn = s.warn
  lastErr : t.lastErr = s.lastErr
  rawT : t.rawT = s.rawT
  rawP : t.rawP = s.rawP
  tFine : t.tFine = s.tFine
  tempNew : t.tempNew = s.tempNew
  tempOut : t.tempOut = s.tempOut
  pressX256Out : t.pressX256Out = s.pressX256Out
  pressPaOut : t.pressPaOut = s.pressPaOut
  outValid : t.outValid = s.outValid
  cmdIn : t.cmdIn = s.cmdIn

theorem KeptByRawReads.readingPorts {s t : State} (h : KeptByRawReads s t) : t.readingPorts = s.readingPorts := by
  simp only [State.readingPorts, h.tempOut, h.pressX256Out, h.pressPaOut, h.outValid]

/-- A `READ` accepted in `s` stands at `p` in `t`: its first reads gave `bs`, and `ins` is still to come from the channel. -/
structure Sampling (s : State) (p : Phase) (bs : List Byte) (ins : List ChannelInput) (t : State) : Prop where
  phase : t.phase = p
  rst : t.rst = []
  chIn : t.chIn = ins
  rawb : bs <+: t.rawb.toList
  trace : t.trace = s.trace ++ rawEvents s.cfg bs
  kept : KeptByRawReads s t

section
variable {s t : State} {bs : List Byte} {b : Byte} {e : BitVec 9} {ins rest : List ChannelInput}
  {cmds : List (Option (BitVec 2))}

/-- The state in which a `READ` accepted in `s` begins (40 R121, R127). -/
def State.readAccepted (s : State) : State :=
  { s with
    rst := s.rst.tail, rspValid := false, freeCnt := s.freeCnt + 1, cmdIn := s.cmdIn.tail, warn := 0#2, rawIdx := 0,
    phase := .rRawRd }

theorem step_readAccepted (hr : s.rst = []) (hp : s.phase = .idle) (hl : s.lifecycle = .ready)
    (ho : s.outstanding = none) (hd : s.dlyReq = none) (hc : s.cmdIn = some 0b10#2 :: cmds) :
    step s = .next s.readAccepted := by
  have hoffered : s.commandOffered = some 0b10#2 := by simp [State.commandOffered, hc]
  have hrst : s.rstNow = false := by simp [State.rstNow, hr]
  have haccept : step s = execRead s.beginStep.takeCommand := step_offered hrst hp ho hd hoffered
  rw [haccept, execRead_ready (s := s.beginStep.takeCommand) hl]
  simp only [State.readAccepted, State.beginStep, State.takeCommand, State.clearWarn]

theorem sampling_accepted (hr : s.rst = []) : Sampling s.readAccepted .rRawRd [] s.chIn s.readAccepted where
  phase := rfl
  rst := by simp [State.readAccepted, hr]
  chIn := rfl
  rawb := List.nil_prefix
  trace := by simp [rawEvents]
  kept := by constructor <;> rfl

theorem Sampling.step_eq (h : Sampling s .rRawRd bs ins t) : step t = execRRawRd t.beginStep :=
  step_of_phase h.phase nofun h.rst

theorem Sampling.answer (h : Sampling s .rRawRd bs (.answer e :: ins) t) : t.beginStep.channelAnswer = some e :=
  channelAnswer_of_ready (s := t.beginStep) h.chIn

/-- One byte further: the answer is recorded and stored at `RAW_IDX`. -/
theorem Sampling.byteStored (h : Sampling s .rRawRd bs (.byte b :: ins) t) (hi : t.rawIdx.val = bs.length) :
    Sampling s .rRawRd (bs ++ [b]) ins
      { t.beginStep.readDone (rawAddr t.cfg t.rawIdx) (.byte b) with
        rawb := t.rawb.set t.rawIdx.val b t.rawIdx.isLt } where
  phase := h.phase
  rst := by simp [h.rst]
  chIn := by simp [h.chIn]
  rawb := by
    have htake : t.rawb.toList.take bs.length = bs := (List.prefix_iff_eq_take.mp h.rawb).symm
    have hlen : bs.length < t.rawb.toList.length := by simpa [hi] using t.rawIdx.isLt
    simp only [Vector.toList_set, hi]
    rw [List.set_eq_take_append_cons_drop, if_pos hlen, htake]
    exact ⟨_, List.append_assoc ..⟩
  trace := by
    have hlen : bs.length < 6 := hi ▸ t.rawIdx.isLt
    have hidx : t.rawIdx = ⟨bs.length, hlen⟩ := Fin.ext hi
    rw [rawEvents_concat _ _ _ hlen, ← hidx, ← List.append_assoc, ← h.trace, ← h.kept.cfg]
    rfl
  kept := { h.kept with }

/-- A byte that is not the last. -/
theorem Sampling.next (h : Sampling s .rRawRd bs (.byte b :: ins) t) (hi : t.rawIdx.val = bs.length)
    (hlen : bs.length < 5) :
    ∃ u, step t = .next u ∧ u.rawIdx.val = (bs ++ [b]).length ∧ Sampling s .rRawRd (bs ++ [b]) ins u := by
  have hexec := execRRawRd_byte h.answer (readAnswer_byteWord b) (by simpa [hi] using hlen)
  have hs := h.byteStored hi
  exact ⟨_, h.step_eq.trans hexec, by simp [hi], { hs with kept := { hs.kept with } }⟩

/-- The sixth byte. -/
theorem Sampling.last (h : Sampling s .rRawRd bs (.byte b :: ins) t) (hi : t.rawIdx.val = bs.length)
    (hlen : bs.length = 5) : ∃ u, step t = .next u ∧ Sampling s .rCompT (bs ++ [b]) ins u := by
  have hexec := execRRawRd_lastByte h.answer (readAnswer_byteWord b) (by simpa [hi] using hlen)
  have hs := h.byteStored hi
  exact ⟨_, h.step_eq.trans hexec, { hs with phase := rfl, kept := { hs.kept with } }⟩

/-- By induction on the bytes that come: none of them is the sixth. -/
theorem Sampling.run {more : List Byte} (h : Sampling s .rRawRd bs (more.map .byte ++ ins) t)
    (hi : t.rawIdx.val = bs.length) (hlen : bs.length + more.length ≤ 5) :
    ∃ u : State, Host.Core.run Sys2Proof.core more.length t = .next u ∧ u.rawIdx.val = (bs ++ more).length ∧
      Sampling s .rRawRd (bs ++ more) ins u := by
  induction more generalizing bs t with
  | nil => exact ⟨t, rfl, by simpa using hi, by simpa using h⟩
  | cons b more ih =>
    rw [List.length_cons] at hlen
    obtain ⟨u, hstep, hu, hs⟩ := h.next hi (by omega)
    obtain ⟨v, hrun, hv, hs⟩ := ih hs hu (by simp; omega)
    rw [List.append_assoc] at hv hs
    exact ⟨v, (run_succ hstep _).trans hrun, hv, hs⟩

/-- All six bytes (42 R175). -/
theorem Sampling.sampled {b : Vector Byte 6} (h : Sampling s .rRawRd [] (b.toList.map .byte ++ ins) t)
    (hi : t.rawIdx = 0) :
    ∃ u : State, Host.Core.run Sys2Proof.core 6 t = .next u ∧ u.rawb = b ∧ Sampling s .rCompT b.toList ins u := by
  have hsplit : b.toList = b.toList.take 5 ++ [b[5]] := by
    have hsix := List.take_append_getElem (l := b.toList) (i := 5) (by simp)
    have hall : b.toList.take 6 = b.toList := List.take_of_length_le (by simp)
    exact hall.symm.trans (by simpa using hsix.symm)
  have hfive : (b.toList.take 5).length = 5 := by simp
  rw [hsplit, List.map_append, List.append_assoc] at h
  obtain ⟨u, hrun, hidx, hs⟩ := h.run (by simp [hi]) (by simp)
  rw [hfive] at hrun
  obtain ⟨v, hstep, hv⟩ := hs.last hidx hfive
  rw [List.nil_append, ← hsplit] at hv
  have hrawb : b.toList = v.rawb.toList := hv.rawb.eq_of_length (by simp)
  exact ⟨v, (run_add hrun 1).trans (run_succ hstep 0), Vector.toList_inj.mp hrawb.symm, hv⟩

/-- A transport error ends the READ at once (42 R174). -/
theorem Sampling.step_failed (h : Sampling s .rRawRd bs (.answer e :: ins) t) (he : readAnswer e = .err) :
    step t = .next ((t.beginStep.readDone (rawAddr s.cfg t.rawIdx) .err).respond .transportError) := by
  rw [← h.kept.cfg]
  exact h.step_eq.trans (execRRawRd_err h.answer he)

end

end Sys2Proof.Machine
end

section
/-! The statements about the raw samples, the whole READ and the sleep write (42_read_sequencer). -/

namespace Sys2Proof.Machine

/-- Settles O26: the answer is `Err`, a byte before the sixth, or the sixth. -/
theorem rawReadOutcomes : Obligations.RawReadOutcomes := by
  refine ⟨rfl, fun _ hc => execRRawRd_silent hc, fun s t hl h => ?_, fun s w hc => ⟨fun ha => ?_, fun b ha =>
    ⟨fun hi => execRRawRd_byte hc ha hi, fun hi => ?_⟩⟩⟩
  · rw [← Host.Outcome.next.inj ((execRead_ready hl).symm.trans h)]
  · refine (execRRawRd_err hc ha).trans ?_
    simp only [State.respond, State.record_trace, List.append_assoc, List.singleton_append]
    rfl
  · have hidx : s.rawIdx = 5 := Fin.ext hi
    refine (execRRawRd_lastByte hc ha hi).trans ?_
    simp only [hidx, State.record_rawIdx, State.takeAnswer_rawIdx]
    rfl

/-- Settles O27: the two answers differ in the warning only. -/
theorem sleepWriteIsBestEffort : Obligations.SleepWriteIsBestEffort := by
  refine ⟨rfl, fun _ hc => execDSleepWr_silent hc, fun s w hc => ?_⟩
  cases ha : writeAnswer w with
  | err =>
    refine (execDSleepWr_err hc ha).trans ?_
    simp only [State.respond, State.setWarn_trace, State.record_trace, List.append_assoc, List.singleton_append]
    rfl
  | ok =>
    refine (execDSleepWr_ok hc ha).trans ?_
    simp only [State.respond, State.record_trace, List.append_assoc, List.singleton_append]
    rfl

/-- Settles O36: the value of the sample is a lemma, and it has no part of `x[3:0]`. -/
theorem rawSampleAssembly : Obligations.RawSampleAssembly := by
  refine ⟨raw_toNat, fun m l x y hxy => ?_, fun _ => ⟨rfl, rfl⟩, fun s ho => ⟨_, rfl, ?_⟩, fun s ho => ⟨_, rfl, ?_⟩⟩
  · exact BitVec.eq_of_toNat_eq (by rw [raw_toNat, raw_toNat, hxy])
  · simp only [ho, rawTemp]
  · simp only [State.respond, State.publish_rawP, ho, rawPress]

/-- Settles O37, read order by read order. -/
theorem rawAddressOrder : Obligations.RawAddressOrder := by
  refine ⟨fun c ho => ?_, fun c ho => ?_, fun _ => ⟨rfl, rfl⟩, fun _ => ⟨rfl, rfl⟩, rfl, rfl⟩
  · simp [rawAddr, ho]
  · simp [rawAddr, ho]

/-- Settles O54: one acceptance, six bytes and the two engine steps, which compute from those bytes and the store. -/
theorem readAsOneFunctionOfSixBytes : Obligations.ReadAsOneFunctionOfSixBytes := by
  intro s b cmds rest hp hl hreq hpend hdly hr hcmd hin rT ct cp st
  have haccept := step_readAccepted hr hp hl (outstanding_eq_none.mpr ⟨hreq, hpend⟩) hdly hcmd
  have hstart := sampling_accepted hr
  rw [hin] at hstart
  obtain ⟨t, hrun, rfl, ht⟩ := hstart.sampled rfl
  have hct : compTCal (rawTemp t.cfg.readOrder t.rawb) t.cal = ct := by rw [ht.kept.cfg, ht.kept.cal]; rfl
  have hcp : compPCal (rawPress t.cfg.readOrder t.rawb) ct.1 t.cal = cp := by rw [ht.kept.cfg, ht.kept.cal]; rfl
  -- The engine's values are compared by name from here on, never computed.
  clear_value ct cp
  have hengine := run_engine ht.phase ht.rst hct hcp
  have hkept := ht.kept
  refine ⟨_, (run_succ haccept 8).trans ((run_add hrun 2).trans hengine), rfl, rfl, rfl, rfl, rfl, hkept.warn, rfl, rfl,
    hkept.lifecycle.trans hl, hkept.cal, hkept.calValid, hkept.lastErr, ht.chIn,
    hkept.cmdIn.trans (congrArg List.tail hcmd), ?_⟩
  rw [readingPublished_trace, hkept.warn, ht.trace, rawEvents_all, List.append_assoc]
  rfl

/-- Settles O55: one acceptance, `k` bytes and the error, which ends the command with the state of acceptance. -/
theorem failedReadPublishesNothing : Obligations.FailedReadPublishesNothing := by
  intro s bs k e cmds rest hp hl hreq hpend hdly hr hcmd hlen he hin
  have haccept := step_readAccepted hr hp hl (outstanding_eq_none.mpr ⟨hreq, hpend⟩) hdly hcmd
  have hstart := sampling_accepted hr
  rw [hin] at hstart
  obtain ⟨t, hrun, hidx, ht⟩ := hstart.run rfl (by simp; omega)
  have hk : t.rawIdx = k := Fin.ext (by simpa [hlen] using hidx)
  have hfail := ht.step_failed (readAnswer_err (by rw [chrErr_eq]; exact decide_eq_true he))
  rw [hlen] at hrun
  have hkept := ht.kept
  refine ⟨_, (run_succ haccept _).trans ((run_add hrun 1).trans (run_succ hfail 0)), rfl, hkept.lifecycle.trans hl, rfl,
    hkept.warn, rfl, hkept.tempOut, hkept.pressX256Out, hkept.pressPaOut, hkept.outValid, hkept.cal, hkept.calValid,
    hkept.lastErr, hkept.rawT, hkept.rawP, hkept.tFine, hkept.tempNew, congrArg List.tail ht.chIn,
    hkept.cmdIn.trans (congrArg List.tail hcmd), rfl, rfl, ?_, _, execRead_ready (hkept.lifecycle.trans hl), rfl, rfl⟩
  show t.trace ++ [.rd8 (rawAddr s.cfg t.rawIdx) .err] ++ [.rsp ⟨.transportError, t.warn, t.readingPorts⟩] = _
  rw [ht.trace, hk, hkept.warn, hkept.readingPorts, List.append_assoc]
  rfl

end Sys2Proof.Machine
end


section
/-! SUPPORT. The engine's primitives as the machine's own 64-bit operations, and their integer values (43 R190 to R195). -/

namespace Sys2Proof.Machine

/-! ### Narrowing -/

theorem toInt_wrap64 (z : Int) : (wrap64 z).toInt = z.bmod (2 ^ 64) := BitVec.toInt_ofInt z

theorem toInt_s64_bounds (a : S64) : -(2 ^ 63) ≤ a.toInt ∧ a.toInt ≤ 2 ^ 63 - 1 :=
  ⟨a.le_toInt, Int.le_sub_one_of_lt a.toInt_lt⟩

theorem wrap64_add_mul_two_pow (z k : Int) : wrap64 (z + k * 2 ^ 64) = wrap64 z := by
  apply BitVec.eq_of_toInt_eq
  rw [toInt_wrap64, toInt_wrap64]
  exact Int.add_mul_bmod_self_right z k (2 ^ 64)

/-! ### The machine's own operations -/

theorem add64_eq_add (a b : S64) : add64 a b = a + b := by
  simp only [add64, wrap64, BitVec.ofInt_add, BitVec.ofInt_toInt]

theorem sub64_eq_sub (a b : S64) : sub64 a b = a - b :=
  BitVec.eq_of_toInt_eq (by rw [sub64, toInt_wrap64, BitVec.toInt_sub])

theorem mul64_eq_mul (a b : S64) : mul64 a b = a * b := by
  simp only [mul64, wrap64, BitVec.ofInt_mul, BitVec.ofInt_toInt]

theorem wrap64_two_pow (n : Nat) : wrap64 (2 ^ n) = BitVec.twoPow 64 n := by
  apply BitVec.eq_of_toNat_eq
  rw [wrap64, BitVec.toNat_ofInt, BitVec.toNat_twoPow]
  norm_cast

theorem shl64_eq_shiftLeft (a : S64) (n : Nat) : shl64 a n = a <<< n :=
  calc shl64 a n = wrap64 a.toInt * wrap64 (2 ^ n) := BitVec.ofInt_mul _ _
    _ = a * BitVec.twoPow 64 n := by rw [wrap64_toInt, wrap64_two_pow]
    _ = a <<< n := (BitVec.shiftLeft_eq_mul_twoPow a n).symm

theorem asr64_eq_sshiftRight (a : S64) (n : Nat) : asr64 a n = a.sshiftRight n := by
  rw [asr64, Int.fdiv_eq_ediv_of_nonneg _ (by positivity), BitVec.sshiftRight, Int.shiftRight_eq_div_pow, wrap64]
  norm_cast

theorem sdiv64_eq_sdiv (a b : S64) : sdiv64 a b = a.sdiv b :=
  BitVec.eq_of_toInt_eq (by rw [sdiv64, toInt_wrap64, BitVec.toInt_sdiv])

/-! ### Rounding -/

theorem toInt_asr64 (a : S64) (n : Nat) : (asr64 a n).toInt = a.toInt / 2 ^ n := by
  rw [asr64_eq_sshiftRight, BitVec.toInt_sshiftRight, Int.shiftRight_eq_div_pow]
  norm_cast

/-- Truncating division is the division of the magnitudes under the product of the signs (43 R195). -/
theorem tdiv_eq_sign_mul_natAbs_div (a b : Int) :
    a.tdiv b = a.sign * b.sign * (a.natAbs / b.natAbs : Nat) := by
  rw [← Int.sign_mul_natAbs (a.tdiv b), Int.sign_tdiv, Int.natAbs_tdiv]
  split
  · rename_i hlt
    simp [Nat.div_eq_of_lt hlt]
  · rfl

/-- The only quotient that leaves 64 bits is the one of `-2^63` by `-1` (43 R195). -/
theorem toInt_sdiv64 {a b : S64} (h : ¬ (a.toInt = -(2 ^ 63) ∧ b.toInt = -1)) :
    (sdiv64 a b).toInt = a.toInt.tdiv b.toInt := by
  rw [sdiv64_eq_sdiv]
  apply BitVec.toInt_sdiv_of_ne_or_ne
  by_contra hc
  obtain ⟨rfl, rfl⟩ : a = BitVec.intMin 64 ∧ b = -1#64 := by simpa [not_or] using hc
  exact h ⟨rfl, rfl⟩

end Sys2Proof.Machine
end

section
/-! SUPPORT. The engine's two paths compute the integers' values wherever these fit 64 bits (43 R197). -/

namespace Sys2Proof.Machine

/-! ### One primitive on operands of known value

Each chains with the next: the value of an operand, proved by one, is a hypothesis of the other. -/

theorem toInt_add64_of_inS64 {a b : S64} {x y : Int} (ha : a.toInt = x) (hb : b.toInt = y) (h : inS64 (x + y) = true) :
    (add64 a b).toInt = x + y := by
  rw [add64, ha, hb, toInt_wrap64_of_inS64 h]

theorem toInt_sub64_of_inS64 {a b : S64} {x y : Int} (ha : a.toInt = x) (hb : b.toInt = y) (h : inS64 (x - y) = true) :
    (sub64 a b).toInt = x - y := by
  rw [sub64, ha, hb, toInt_wrap64_of_inS64 h]

theorem toInt_mul64_of_inS64 {a b : S64} {x y : Int} (ha : a.toInt = x) (hb : b.toInt = y) (h : inS64 (x * y) = true) :
    (mul64 a b).toInt = x * y := by
  rw [mul64, ha, hb, toInt_wrap64_of_inS64 h]

theorem toInt_shl64_of_inS64 {a : S64} {x : Int} {n : Nat} (ha : a.toInt = x) (h : inS64 (x * 2 ^ n) = true) :
    (shl64 a n).toInt = x * 2 ^ n := by
  rw [shl64, ha, toInt_wrap64_of_inS64 h]

theorem toInt_asr64_of_inS64 {a : S64} {x : Int} {n : Nat} (ha : a.toInt = x) (h : inS64 (asrZ x n) = true) :
    (asr64 a n).toInt = asrZ x n := by
  rw [asr64, ha]
  exact toInt_wrap64_of_inS64 h

theorem toInt_sdiv64_of_inS64 {a b : S64} {x y : Int} (ha : a.toInt = x) (hb : b.toInt = y)
    (h : inS64 (x.tdiv y) = true) : (sdiv64 a b).toInt = x.tdiv y := by
  rw [sdiv64, ha, hb, toInt_wrap64_of_inS64 h]

/-! ### The temperature path -/

theorem compT_exact {r a b c : S64} {rawT t1 t2 t3 : Int} (hr : r.toInt = rawT) (ha : a.toInt = t1) (hb : b.toInt = t2)
    (hc : c.toInt = t3) (h : (compTZ rawT t1 t2 t3).2.all inS64 = true) :
    (compT r a b c).1.toInt = (compTZ rawT t1 t2 t3).1.1 ∧ (compT r a b c).2.toInt = (compTZ rawT t1 t2 t3).1.2 := by
  simp only [compTZ, List.all_cons, List.all_nil, Bool.and_true, Bool.and_eq_true] at h
  obtain ⟨hr3, ht1s, hsub, hm, htv1, hr4, hd, hdd, hdd12, hm3, htv2, hfine, ht5, ht5r, ht⟩ := h
  have d := toInt_sub64_of_inS64 (toInt_asr64_of_inS64 hr hr4) ha hd
  have tv1 := toInt_asr64_of_inS64 (toInt_mul64_of_inS64
    (toInt_sub64_of_inS64 (toInt_asr64_of_inS64 hr hr3) (toInt_shl64_of_inS64 ha ht1s) hsub) hb hm) htv1
  have tv2 := toInt_asr64_of_inS64 (toInt_mul64_of_inS64
    (toInt_asr64_of_inS64 (toInt_mul64_of_inS64 d d hdd) hdd12) hc hm3) htv2
  have fine := toInt_add64_of_inS64 tv1 tv2 hfine
  exact ⟨fine, toInt_asr64_of_inS64
    (toInt_add64_of_inS64 (toInt_mul64_of_inS64 fine rfl ht5) rfl ht5r) ht⟩

/-! ### The pressure path -/

theorem compPOffset_exact {f d e g : S64} {tFine p4 p5 p6 : Int} (hf : f.toInt = tFine) (h4 : d.toInt = p4)
    (h5 : e.toInt = p5) (h6 : g.toInt = p6) (h : (compPOffsetZ tFine p4 p5 p6).2.all inS64 = true) :
    (compPOffset f d e g).toInt = (compPOffsetZ tFine p4 p5 p6).1 := by
  simp only [compPOffsetZ, List.all_cons, List.all_nil, Bool.and_true, Bool.and_eq_true] at h
  obtain ⟨hv1a, hsq, hm6, hm5, hm5s, hs65, hp4s, hv2⟩ := h
  have v1a : (sub64 f 128000#64).toInt = tFine - 128000 := toInt_sub64_of_inS64 hf rfl hv1a
  have sq := toInt_mul64_of_inS64 v1a v1a hsq
  have linear := toInt_shl64_of_inS64 (toInt_mul64_of_inS64 v1a h5 hm5) hm5s
  exact toInt_add64_of_inS64 (toInt_add64_of_inS64 (toInt_mul64_of_inS64 sq h6 hm6) linear hs65)
    (toInt_shl64_of_inS64 h4 hp4s) hv2

theorem compPDivisor_exact {f a b c : S64} {tFine p1 p2 p3 : Int} (hf : f.toInt = tFine) (h1 : a.toInt = p1)
    (h2 : b.toInt = p2) (h3 : c.toInt = p3) (h : (compPDivisorZ tFine p1 p2 p3).2.all inS64 = true) :
    (compPDivisor f a b c).toInt = (compPDivisorZ tFine p1 p2 p3).1 := by
  simp only [compPDivisorZ, List.all_cons, List.all_nil, Bool.and_true, Bool.and_eq_true] at h
  obtain ⟨hv1a, hsq, hm3, hm3s, hm2, hm2s, hv1b, hsum, hm1, hv1c⟩ := h
  have v1a : (sub64 f 128000#64).toInt = tFine - 128000 := toInt_sub64_of_inS64 hf rfl hv1a
  have sq := toInt_mul64_of_inS64 v1a v1a hsq
  have v1b := toInt_add64_of_inS64 (toInt_asr64_of_inS64 (toInt_mul64_of_inS64 sq h3 hm3) hm3s)
    (toInt_shl64_of_inS64 (toInt_mul64_of_inS64 v1a h2 hm2) hm2s) hv1b
  exact toInt_asr64_of_inS64 (toInt_mul64_of_inS64 (toInt_add64_of_inS64 rfl v1b hsum) h1 hm1) hv1c

theorem compPFinish_exact {a g h i : S64} {q p7 p8 p9 : Int} (hq : a.toInt = q) (h7 : g.toInt = p7)
    (h8 : h.toInt = p8) (h9 : i.toInt = p9) (hfit : (compPFinishZ q p7 p8 p9).2.all inS64 = true) :
    (compPFinish a g h i).toInt = (compPFinishZ q p7 p8 p9).1 := by
  simp only [compPFinishZ, List.all_cons, List.all_nil, Bool.and_true, Bool.and_eq_true] at hfit
  obtain ⟨hq13, hm9, hm99, hw1, hm8, hw2, hs1, hs2, hs8, hp7s, hp⟩ := hfit
  have q13 := toInt_asr64_of_inS64 hq hq13
  have w1 := toInt_asr64_of_inS64 (toInt_mul64_of_inS64 (toInt_mul64_of_inS64 h9 q13 hm9) q13 hm99) hw1
  have w2 := toInt_asr64_of_inS64 (toInt_mul64_of_inS64 h8 hq hm8) hw2
  have sum := toInt_add64_of_inS64 (toInt_add64_of_inS64 hq w1 hs1) w2 hs2
  exact toInt_add64_of_inS64 (toInt_asr64_of_inS64 sum hs8) (toInt_shl64_of_inS64 h7 hp7s) hp

/-! ### Both paths on a raw sample and the store -/

theorem compTCal_exact {r : Raw} {cal : Vector CalWord 12} (h : (compTCalZ r cal).2.all inS64 = true) :
    (compTCal r cal).1.toInt = (compTCalZ r cal).1.1 ∧ (compTCal r cal).2.toInt = (compTCalZ r cal).1.2 :=
  compT_exact (zextRaw_toInt r) (zextCal_toInt cal[0]) (sextCal_toInt cal[1]) (sextCal_toInt cal[2]) h

/-- The divisor `v1c` of the pressure path on the store. -/
def calDivisor (t : S64) (cal : Vector CalWord 12) : S64 :=
  compPDivisor t (zextCal cal[3]) (sextCal cal[4]) (sextCal cal[5])

/-- `v1c` over `Z` on the store, with every value on the way. -/
def calDivisorZ (t : Int) (cal : Vector CalWord 12) : Int × List Int :=
  compPDivisorZ t cal[3].toNat cal[4].toInt cal[5].toInt

/-- The pressure where there is a divisor: the end of the path on the quotient (43 R211). -/
def regularPressure (r : Raw) (t : S64) (cal : Vector CalWord 12) : S64 :=
  compPFinish
    (sdiv64
      (mul64 (sub64 (shl64 (sub64 1048576#64 (zextRaw r)) 31)
        (compPOffset t (sextCal cal[6]) (sextCal cal[7]) (sextCal cal[8]))) 3125#64)
      (calDivisor t cal))
    (sextCal cal[9]) (sextCal cal[10]) (sextCal cal[11])

theorem compPCal_eq (r : Raw) (t : S64) (cal : Vector CalWord 12) :
    compPCal r t cal = if calDivisor t cal = 0#64 then (0#64, true) else (regularPressure r t cal, false) := rfl

theorem compPCal_of_divisor_zero {t : S64} {cal : Vector CalWord 12} (h : calDivisor t cal = 0#64) (r : Raw) :
    compPCal r t cal = (0#64, true) := by
  rw [compPCal_eq, if_pos h]

theorem compPCal_of_divisor_ne_zero {t : S64} {cal : Vector CalWord 12} (h : calDivisor t cal ≠ 0#64) (r : Raw) :
    compPCal r t cal = (regularPressure r t cal, false) := by
  rw [compPCal_eq, if_neg h]

theorem calDivisor_exact {t : S64} {tFine : Int} {cal : Vector CalWord 12} (ht : t.toInt = tFine)
    (h : (calDivisorZ tFine cal).2.all inS64 = true) : (calDivisor t cal).toInt = (calDivisorZ tFine cal).1 :=
  compPDivisor_exact ht (zextCal_toInt cal[3]) (sextCal_toInt cal[4]) (sextCal_toInt cal[5]) h

theorem compPCal_exact {r : Raw} {t : S64} {tFine : Int} {cal : Vector CalWord 12} (ht : t.toInt = tFine)
    (h : (compPCalZ r tFine cal).2.all inS64 = true) :
    (compPCal r t cal).1.toInt = (compPCalZ r tFine cal).1.1 ∧ (compPCal r t cal).2 = (compPCalZ r tFine cal).1.2 := by
  by_cases hz : (calDivisorZ tFine cal).1 = 0
  · have hZ : compPCalZ r tFine cal = ((0, true), _) := if_pos hz
    rw [hZ, List.all_append, Bool.and_eq_true] at h
    have hdiv : calDivisor t cal = 0#64 := BitVec.eq_of_toInt_eq ((calDivisor_exact ht h.2).trans hz)
    rw [compPCal_of_divisor_zero hdiv, hZ]
    exact ⟨rfl, rfl⟩
  · have hZ : compPCalZ r tFine cal = ((_, false), _) := if_neg hz
    rw [hZ] at h ⊢
    simp only [List.all_append, List.all_cons, List.all_nil, Bool.and_true, Bool.and_eq_true] at h
    obtain ⟨⟨⟨hoff, hdiv⟩, hp0, hp0s, hdf, hnum, hq⟩, hfin⟩ := h
    have divisor := calDivisor_exact ht hdiv
    have hne : calDivisor t cal ≠ 0#64 := fun h0 => hz (by rw [← divisor, h0]; rfl)
    have offset := compPOffset_exact ht (sextCal_toInt cal[6]) (sextCal_toInt cal[7]) (sextCal_toInt cal[8]) hoff
    have p0 := toInt_sub64_of_inS64 (a := 1048576#64) rfl (zextRaw_toInt r) hp0
    have num := toInt_mul64_of_inS64 (b := 3125#64)
      (toInt_sub64_of_inS64 (toInt_shl64_of_inS64 p0 hp0s) offset hdf) rfl hnum
    rw [compPCal_of_divisor_ne_zero hne]
    exact ⟨compPFinish_exact (toInt_sdiv64_of_inS64 num divisor hq) (sextCal_toInt cal[9]) (sextCal_toInt cal[10])
      (sextCal_toInt cal[11]) hfin, rfl⟩

end Sys2Proof.Machine
end

section
/-! SUPPORT. The bounds of the temperature path (43 R203, R204): every value it produces over `Z` fits 64 bits. -/

namespace Sys2Proof.Machine

theorem inS64_iff {z : Int} : inS64 z = true ↔ -(2 ^ 63) ≤ z ∧ z ≤ 2 ^ 63 - 1 := by
  rw [inS64, Bool.and_eq_true, decide_eq_true_eq, decide_eq_true_eq]

theorem asrZ_eq_ediv (a : Int) (n : Nat) : asrZ a n = a / 2 ^ n :=
  Int.fdiv_eq_ediv_of_nonneg a (by positivity)

theorem raw_range (r : Raw) : (0 : Int) ≤ r.toNat ∧ (r.toNat : Int) ≤ 1048575 := by
  have := r.isLt
  omega

theorem unsigned_word_range (w : CalWord) : (0 : Int) ≤ w.toNat ∧ (w.toNat : Int) ≤ 65535 := by
  have := w.isLt
  omega

theorem signed_word_range (w : CalWord) : -32768 ≤ w.toInt ∧ w.toInt ≤ 32767 :=
  ⟨w.le_toInt, Int.le_sub_one_of_lt w.toInt_lt⟩

/-! ### Products -/

/-- A factor of the range `-n .. n` times a 16-bit signed one. -/
theorem mul_signed_word_bounds {x y n : Int} (hx : -n ≤ x ∧ x ≤ n) (hy : -32768 ≤ y ∧ y ≤ 32767) :
    -(n * 32768) ≤ x * y ∧ x * y ≤ n * 32768 := by
  have h : |x * y| ≤ n * 32768 := by
    rw [abs_mul]
    exact mul_le_mul (abs_le.mpr hx) (abs_le.mpr ⟨hy.1, by omega⟩) (abs_nonneg y) (by omega)
  exact abs_le.mp h

/-- The positive side is smaller: with `t2` at -32768 a positive product has a negative first factor, which stops at -131070. -/
theorem linear_product_le {a t2 : Int} (ha : -131070 ≤ a ∧ a ≤ 131071) (h2 : -32768 ≤ t2 ∧ t2 ≤ 32767) :
    a * t2 ≤ 4294901760 := by
  rcases le_total 0 t2 with hpos | hneg
  · have h := mul_le_mul_of_nonneg_right ha.2 hpos
    omega
  · have h := mul_le_mul_of_nonpos_right ha.1 hneg
    omega

/-- With a first factor that is not negative, a positive product has a second factor below 32768. -/
theorem square_product_le {n t3 : Int} (hn : 0 ≤ n ∧ n ≤ 1048544) (h3 : -32768 ≤ t3 ∧ t3 ≤ 32767) :
    n * t3 ≤ 34357641248 := by
  have h := mul_le_mul_of_nonneg_left h3.2 hn.1
  omega

/-! ### The path, value by value -/

theorem linear_factor_bounds {r t1 : Int} (hr : 0 ≤ r ∧ r ≤ 1048575) (h1 : 0 ≤ t1 ∧ t1 ≤ 65535) :
    -131070 ≤ asrZ r 3 - t1 * 2 ∧ asrZ r 3 - t1 * 2 ≤ 131071 := by
  rw [asrZ_eq_ediv]
  omega

theorem linear_term_bounds {a t2 : Int} (ha : -131070 ≤ a ∧ a ≤ 131071) (h2 : -32768 ≤ t2 ∧ t2 ≤ 32767) :
    (-4294934528 ≤ a * t2 ∧ a * t2 ≤ 4294934528) ∧ (-2097136 ≤ asrZ (a * t2) 11 ∧ asrZ (a * t2) 11 ≤ 2097120) := by
  have hm := mul_signed_word_bounds (x := a) (n := 131071) (by omega) h2
  have hle := linear_product_le ha h2
  rw [asrZ_eq_ediv]
  omega

theorem square_factor_bounds {r t1 : Int} (hr : 0 ≤ r ∧ r ≤ 1048575) (h1 : 0 ≤ t1 ∧ t1 ≤ 65535) :
    -65535 ≤ asrZ r 4 - t1 ∧ asrZ r 4 - t1 ≤ 65535 := by
  rw [asrZ_eq_ediv]
  omega

theorem square_bounds {d : Int} (hd : -65535 ≤ d ∧ d ≤ 65535) :
    (0 ≤ d * d ∧ d * d ≤ 4294836225) ∧ (0 ≤ asrZ (d * d) 12 ∧ asrZ (d * d) 12 ≤ 1048544) := by
  have hnonneg := mul_self_nonneg d
  have hle : d * d ≤ 65535 * 65535 := abs_le_iff_mul_self_le.mp (by rwa [abs_le])
  rw [asrZ_eq_ediv]
  omega

theorem square_term_bounds {n t3 : Int} (hn : 0 ≤ n ∧ n ≤ 1048544) (h3 : -32768 ≤ t3 ∧ t3 ≤ 32767) :
    (-34358689792 ≤ n * t3 ∧ n * t3 ≤ 34358689792) ∧ (-2097088 ≤ asrZ (n * t3) 14 ∧ asrZ (n * t3) 14 ≤ 2097024) := by
  have hm := mul_signed_word_bounds (x := n) (n := 1048544) (by omega) h3
  have hle := square_product_le hn h3
  rw [asrZ_eq_ediv]
  omega

theorem fine_temperature_bounds {tv1 tv2 : Int} (h1 : -2097136 ≤ tv1 ∧ tv1 ≤ 2097120)
    (h2 : -2097088 ≤ tv2 ∧ tv2 ≤ 2097024) :
    (-4194224 ≤ tv1 + tv2 ∧ tv1 + tv2 ≤ 4194144) ∧
    (-20970992 ≤ (tv1 + tv2) * 5 + 128 ∧ (tv1 + tv2) * 5 + 128 ≤ 20970848) ∧
    (-81918 ≤ asrZ ((tv1 + tv2) * 5 + 128) 8 ∧ asrZ ((tv1 + tv2) * 5 + 128) 8 ≤ 81917) := by
  rw [asrZ_eq_ediv]
  omega

theorem compTZ_inS64 {r t1 t2 t3 : Int} (hr : 0 ≤ r ∧ r ≤ 1048575) (h1 : 0 ≤ t1 ∧ t1 ≤ 65535)
    (h2 : -32768 ≤ t2 ∧ t2 ≤ 32767) (h3 : -32768 ≤ t3 ∧ t3 ≤ 32767) : (compTZ r t1 t2 t3).2.all inS64 = true := by
  have ha := linear_factor_bounds hr h1
  have ⟨hm, htv1⟩ := linear_term_bounds ha h2
  have hd := square_factor_bounds hr h1
  have ⟨hdd, hdd12⟩ := square_bounds hd
  have ⟨hm3, htv2⟩ := square_term_bounds hdd12 h3
  have ⟨hfine, ht5r, ht⟩ := fine_temperature_bounds htv1 htv2
  simp only [compTZ, List.all_cons, List.all_nil, Bool.and_true, Bool.and_eq_true, pow_one, inS64_iff]
  omega

/-- The temperature path never leaves 64 bits (43 R203). -/
theorem compTCalZ_inS64 (r : Raw) (cal : Vector CalWord 12) : (compTCalZ r cal).2.all inS64 = true :=
  compTZ_inS64 (raw_range r) (unsigned_word_range cal[0]) (signed_word_range cal[1]) (signed_word_range cal[2])

end Sys2Proof.Machine
end

section
/-! SUPPORT. The zero divisor (43 R212) and the pressure operation as a whole next state (43 R210, R218). -/

namespace Sys2Proof.Machine

/-- A right shift gives 0 exactly on the values `0 .. 2^n - 1`. -/
theorem asr64_eq_zero_iff (a : S64) (n : Nat) : asr64 a n = 0#64 ↔ 0 ≤ a.toInt ∧ a.toInt < 2 ^ n := by
  have hpos : (0 : Int) < 2 ^ n := by positivity
  rw [← BitVec.toInt_inj, toInt_asr64, BitVec.toInt_zero, Int.ediv_eq_iff_of_pos hpos, zero_mul, zero_add]

theorem mul64_zero (a : S64) : mul64 a 0#64 = 0#64 := by rw [mul64_eq_mul, BitVec.mul_zero]

theorem compPCal_degenerate_iff (r : Raw) (t : S64) (cal : Vector CalWord 12) :
    (compPCal r t cal).2 = true ↔ calDivisor t cal = 0#64 := by
  by_cases h : calDivisor t cal = 0#64
  · simp [compPCal_of_divisor_zero h, h]
  · simp [compPCal_of_divisor_ne_zero h, h]

theorem calDivisor_of_p1_zero {cal : Vector CalWord 12} (h : cal[3] = 0#16) (t : S64) : calDivisor t cal = 0#64 := by
  rw [calDivisor, compPDivisor, h]
  exact congrArg (asr64 · 33) (mul64_zero _)

/-- `R_COMP_P` answers in every state: it publishes and then responds (43 R210, R218). -/
theorem exec_rCompP (s : State) :
    exec .rCompP s = .next
      (({ s with rawP := rawPress s.cfg.readOrder s.rawb }.publish s.tempNew
        (compPCal (rawPress s.cfg.readOrder s.rawb) s.tFine s.cal).1).respond
        (readStatus (compPCal (rawPress s.cfg.readOrder s.rawb) s.tFine s.cal).2)) := rfl

end Sys2Proof.Machine
end

section
/-! The statements about the compensation engine (43_compensation_engine). -/

namespace Sys2Proof.Machine

/-- Settles O32: the balanced remainder modulo 2^64; a congruent `s64` narrows to the same value, and to itself. -/
theorem wrapIsTheUniqueCongruentValue : Obligations.WrapIsTheUniqueCongruentValue := by
  refine fun z => ⟨toInt_s64_bounds _, ?_, fun a ⟨k, hk⟩ => ?_⟩
  · rw [toInt_wrap64]
    exact exists_eq_mul_left_of_dvd Int.dvd_self_sub_bmod
  · have hz : z = a.toInt + k * 2 ^ 64 := by omega
    rw [hz, wrap64_add_mul_two_pow, wrap64_toInt]

/-- Settles O33: narrowing is a ring homomorphism, and a left shift multiplies by a power of two. -/
theorem ringOperationsWrap : Obligations.RingOperationsWrap :=
  ⟨fun a b => ⟨rfl, add64_eq_add a b⟩, fun a b => ⟨rfl, sub64_eq_sub a b⟩, fun a b => ⟨rfl, mul64_eq_mul a b⟩,
    fun a n _ => ⟨rfl, shl64_eq_shiftLeft a n⟩⟩

/-- Settles O34: the shifted value is the floor quotient, whose two bounds are those of Euclidean division. -/
theorem rightShiftIsFloor : Obligations.RightShiftIsFloor := by
  intro a n _
  have hpos : (0 : Int) < 2 ^ n := by positivity
  rw [toInt_asr64, mul_add_one]
  exact ⟨Int.mul_ediv_self_le hpos.ne', Int.lt_mul_ediv_self_add hpos, asr64_eq_sshiftRight a n⟩

/-- Settles O35: the quotient of the magnitudes under the sign, exact but for `-2^63 / -1`. -/
theorem divisionTruncates : Obligations.DivisionTruncates := by
  refine fun a b _ => ⟨?_, fun ⟨ha, hb⟩ => ?_, fun h => ?_⟩
  · rw [← tdiv_eq_sign_mul_natAbs_div, sdiv64]
  · rw [sdiv64, ha, hb]
    rfl
  · rw [toInt_sdiv64 h, tdiv_eq_sign_mul_natAbs_div]

/-- Settles O38: each primitive is the machine's operation, term by term. -/
theorem formulasInMachineArithmetic : Obligations.FormulasInMachineArithmetic := by
  refine ⟨fun rawT t1 t2 t3 => ?_, fun rawP tFine p1 p2 p3 p4 p5 p6 p7 p8 p9 => ?_⟩
  · simp only [compT, add64_eq_add, sub64_eq_sub, mul64_eq_mul, shl64_eq_shiftLeft, asr64_eq_sshiftRight]
  · have h47 : wrap64 (2 ^ 47) = 140737488355328#64 := rfl
    simp only [compP, compPDivisor, compPOffset, compPFinish, add64_eq_add, sub64_eq_sub, mul64_eq_mul,
      shl64_eq_shiftLeft, asr64_eq_sshiftRight, sdiv64_eq_sdiv, h47]

/-- Settles O40: with every value inside 64 bits the machine's results are the integers'. -/
theorem temperaturePathIsExact : Obligations.TemperaturePathIsExact := by
  intro r cal t1 t2 t3 a tv1 d tv2 tFine t
  have hZ : (compTCalZ r cal).1 = (tFine, t) := rfl
  have ⟨hfine, ht⟩ := compTCal_exact (compTCalZ_inS64 r cal)
  have hr := raw_range r
  have h1 := unsigned_word_range cal[0]
  have h3 := signed_word_range cal[2]
  have ha := linear_factor_bounds hr h1
  have ⟨hm, htv1⟩ := linear_term_bounds ha (signed_word_range cal[1])
  have hd := square_factor_bounds hr h1
  have ⟨hdd, hdd12⟩ := square_bounds hd
  have ⟨hm3, htv2⟩ := square_term_bounds hdd12 h3
  have ⟨hsum, ht5r, htemp⟩ := fine_temperature_bounds htv1 htv2
  exact ⟨hfine, ht, hZ, ha, hm, htv1, hd, hdd, hdd12, hm3, htv2, hsum, ht5r, htemp⟩

/-- Settles O41: both paths are exact where their values fit; the store of V12, with the largest `P1` and `P3`,
leaves 64 bits. -/
theorem engineIsExactUnderNoOverflow : Obligations.EngineIsExactUnderNoOverflow := by
  refine ⟨fun rT rP c h => ?_, compTCalZ_inS64, 0#20, 0#20, #v[0, 0, 0, 65535, 0, 32767, 0, 0, 0, 0, 0, 0], by decide⟩
  rw [noOverflow, Bool.and_eq_true] at h
  obtain ⟨hT, hP⟩ := h
  obtain ⟨hfine, htemp⟩ := compTCal_exact hT
  exact ⟨hfine, htemp, compPCal_exact hfine hP⟩

/-- Settles O42: the mark is a zero divisor, and a zero divisor is a product that the shift by 33 takes to 0. -/
theorem degeneratePressureExactly : Obligations.DegeneratePressureExactly := by
  refine ⟨fun r t cal => ⟨?_, fun h => ?_, fun h => ?_⟩, fun s h => ?_⟩
  · rw [compPCal_degenerate_iff]
    exact asr64_eq_zero_iff _ 33
  · rw [compPCal_of_divisor_zero ((compPCal_degenerate_iff r t cal).mp h)]
  · exact (compPCal_degenerate_iff r t cal).mpr (calDivisor_of_p1_zero h t)
  · have hcp := compPCal_of_divisor_zero ((compPCal_degenerate_iff _ _ _).mp h) (rawPress s.cfg.readOrder s.rawb)
    refine ⟨_, exec_rCompP s, rfl, ?_⟩
    rw [hcp]
    exact ⟨rfl, rfl, rfl, rfl⟩

/-- Settles O12: the quotient by 256 is the truncating one, which never overflows. -/
theorem publishChangesAllOutputsTogether : Obligations.PublishChangesAllOutputsTogether := by
  refine ⟨fun s t p => ⟨rfl, ?_⟩, exec_rCompP⟩
  have hdiv : (sdiv64 p 256#64).toInt = p.toInt.tdiv 256 := toInt_sdiv64 fun h => absurd h.2 (by decide)
  rw [State.publish_pressPaOut, hdiv, tdiv_eq_sign_mul_natAbs_div, show Int.sign 256 = 1 from rfl, mul_one]
  rfl

/-- Settles O28: the statement is the operation's definition with the operands of `compTCal` written out. -/
theorem temperatureStepResult : Obligations.TemperatureStepResult := ⟨rfl, fun _ => rfl⟩

/-- Settles O29: publishing and responding write these fields; the response shows the reading just published. -/
theorem pressureStepResult : Obligations.PressureStepResult := by
  refine ⟨rfl, fun s p degenerate h => ?_⟩
  have hcp : compPCal (rawPress s.cfg.readOrder s.rawb) s.tFine s.cal = (p, degenerate) := h
  rw [exec_rCompP, hcp]
  rfl

end Sys2Proof.Machine
end

section
/-! The statement about `fail` (60_exceptions R240) and the micro-operations of ATTACH that end in it. -/

namespace Sys2Proof.Machine

/-- An answer below 256 is the byte it numbers (30_encoding R95), so it is another byte than `b` where the numbers differ. -/
theorem ofNat_ne_of_toNat_ne {w : BitVec 9} {b : Byte} (hw : w.toNat < 256) (hne : w.toNat ≠ b.toNat) :
    BitVec.ofNat 8 w.toNat ≠ b := by
  rintro rfl
  exact hne ((BitVec.toNat_ofNat w.toNat 8).trans (Nat.mod_eq_of_lt hw)).symm

/-- An answer with `err` set ends every accessing micro-operation of ATTACH in `fail(TransportError)`, after one request. -/
theorem exec_attach_err {s : State} {w : BitVec 9} {i : Instr} (hc : s.channelAnswer = some w)
    (hrd : readAnswer w = .err) (hwr : writeAnswer w = .err)
    (hi : i ∈ [Instr.aIdRd, .aRstWr, .aPollRd, .aCfgCtrlWr, .aCfgConfigWr, .aCalRd]) :
    ∃ e : Event, e.isRequest = true ∧ exec i s = .next ((s.takeAnswer.record e).fail .transportError) := by
  simp only [List.mem_cons, List.not_mem_nil, or_false] at hi
  rcases hi with rfl | rfl | rfl | rfl | rfl | rfl
  · exact ⟨_, rfl, execAIdRd_err hc hrd⟩
  · exact ⟨_, rfl, execARstWr_err hc hwr⟩
  · exact ⟨_, rfl, execAPollRd_err hc hrd⟩
  · exact ⟨_, rfl, execACfgCtrlWr_err hc hwr⟩
  · exact ⟨_, rfl, execACfgConfigWr_err hc hwr⟩
  · exact ⟨_, rfl, execACalRd_err hc hrd⟩

/-- Settles O11: `fail` is its definition; an answer from 256 on is `Err` to a read and to a write, and one below is a byte,
which the identity read compares with `CHIP_ID`. -/
theorem failWritesExactlyTheseRegisters : Obligations.FailWritesExactlyTheseRegisters := by
  refine ⟨fun _ _ => rfl, fun s w i hc hw hi => ?_, fun s w hc hw hne => ?_⟩
  · obtain ⟨herr, -⟩ := channelAnswerFormat w
    obtain ⟨hrd, hwr⟩ := herr hw
    exact exec_attach_err hc hrd hwr hi
  · obtain ⟨-, hbyte⟩ := channelAnswerFormat w
    obtain ⟨hrd, -⟩ := hbyte hw
    exact ⟨_, rfl, execAIdRd_mismatch hc hrd (ofNat_ne_of_toNat_ne hw hne)⟩

end Sys2Proof.Machine
end

section
/-! SUPPORT. What a reset ignores (70_reset R262), a run that is over and a stuck sequencer (R264, R265). -/

namespace Sys2Proof.Machine

/-! ### The late answer -/

/-- Entries without an answer are passed over; the first answer is taken out of its entry. -/
theorem ignoreLateAnswer_first {early : List ChannelInput} (h : ∀ e ∈ early, e.rsp = none) (ready : Bool) (a : BitVec 9)
    (rest : List ChannelInput) :
    ignoreLateAnswer (early ++ ⟨ready, some a⟩ :: rest) = early ++ ⟨ready, none⟩ :: rest := by
  induction early with
  | nil => rfl
  | cons e early ih =>
    obtain ⟨he, hearly⟩ := List.forall_mem_cons.mp h
    simp [ignoreLateAnswer, he, ih hearly]

theorem ignoreLateDone_first (n : Nat) (rest : List Bool) :
    ignoreLateDone (List.replicate n false ++ true :: rest) = List.replicate n false ++ false :: rest := by
  induction n with
  | zero => rfl
  | succ n ih => simp [List.replicate_succ, ignoreLateDone, ih]

/-! ### What every step keeps, every run keeps -/

theorem run_keeps {P : State → Prop} (hstep : ∀ s, P s → ∃ t, step s = .next t ∧ P t) (k : Nat) {s : State} (h : P s) :
    ∃ t, Host.Core.run Sys2Proof.core k s = .next t ∧ P t := by
  induction k generalizing s with
  | zero => exact ⟨s, rfl, h⟩
  | succ k ih =>
    obtain ⟨t, ht, hPt⟩ := hstep s h
    obtain ⟨u, hu, hPu⟩ := ih hPt
    exact ⟨u, (run_succ ht k).trans hu, hPu⟩

/-! ### A run that is over -/

theorem runOver_iff {s : State} {n : Nat} : s.runOver n = true ↔
    s.phase = .idle ∧ s.chReq = none ∧ s.chPending = none ∧ s.dlyReq = none ∧ s.responses = n ∧ ∀ c ∈ s.cmdIn, c = none := by
  simp [State.runOver, and_assoc]

theorem commandOffered_of_none {s : State} (h : ∀ c ∈ s.cmdIn, c = none) : s.commandOffered = none := by
  cases ho : s.commandOffered with
  | none => rfl
  | some op =>
    have hmem : some op ∈ s.cmdIn := by rw [cmdIn_of_commandOffered ho]; exact List.mem_cons_self
    cases h _ hmem

/-- The run of `n` commands is over with the end state `e`, and no reset follows. -/
structure EndedIn (n : Nat) (e : EndState) (s : State) : Prop where
  runOver : s.runOver n = true
  endState : s.endState = e
  quiet : ∀ r ∈ s.rst, r = false

/-- An ended run only uses up the entries of `rst` and of the command port. -/
theorem EndedIn.step {n : Nat} {e : EndState} {s : State} (h : EndedIn n e s) : ∃ t, step s = .next t ∧ EndedIn n e t := by
  obtain ⟨hp, hreq, hpend, hdly, hresp, hcmd⟩ := runOver_iff.mp h.runOver
  have hidle : exec (phaseInstr s.phase) s.beginStep = .next s.beginStep.takeCommand := by
    rw [hp]
    exact execIdle_quiet (commandOffered_of_none (s := s.beginStep) hcmd)
  refine ⟨_, (step_no_request (rstNow_of_quiet h.quiet) (outstanding_eq_none.mpr ⟨hreq, hpend⟩) hdly).trans hidle, ?_⟩
  exact ⟨runOver_iff.mpr ⟨hp, hreq, hpend, hdly, hresp, fun c hc => hcmd c (List.mem_of_mem_tail hc)⟩, h.endState,
    fun r hr => h.quiet r (List.mem_of_mem_tail hr)⟩

theorem runOver_of_busy {s : State} (h : s.phase ≠ .idle) (n : Nat) : s.runOver n = false := by
  simp [State.runOver, h]

/-! ### A stuck sequencer -/

/-- A channel that never answers gives none now, and never answers the transaction as it stands after this step. -/
theorem silent_of_neverAnswers {s : State} (h : neverAnswers s.chPending.isSome s.chIn = true) :
    s.channelAnswer = none ∧ neverAnswers s.chTaken s.chIn.tail = true := by
  cases hin : s.chIn with
  | nil => exact ⟨channelAnswer_nil hin, rfl⟩
  | cons e rest =>
    have htaken : s.chTaken = (s.chPending.isSome || e.ready) := by simp [State.chTaken, State.channelReady, hin]
    rw [hin, neverAnswers, ← htaken] at h
    cases ht : s.chTaken with
    | true => simpa [State.channelAnswer, hin, ht] using h
    | false => exact ⟨channelAnswer_of_not_taken ht, by simpa [ht] using h⟩

theorem stuck_of_channel {s : State} (h : agentOf (phaseInstr s.phase) = .channel) :
    s.stuck = neverAnswers s.chPending.isSome s.chIn := by
  cases hp : s.phase <;> simp_all [State.stuck, phaseInstr, agentOf]

theorem stuck_of_timer {s : State} (h : agentOf (phaseInstr s.phase) = .timer) : s.stuck = s.dlyIn.all (· == false) := by
  cases hp : s.phase <;> simp_all [State.stuck, phaseInstr, agentOf]

theorem stuck_alone {s : State} (h : agentOf (phaseInstr s.phase) = .none) : s.stuck = false := by
  cases hp : s.phase <;> simp_all [State.stuck, phaseInstr, agentOf]

theorem timerDone_of_never {s : State} (h : s.dlyIn.all (· == false) = true) : s.timerDone = false := by
  cases hin : s.dlyIn with
  | nil => simp [State.timerDone, hin]
  | cons d rest => simp_all [State.timerDone]

theorem stuck_busy {s : State} (h : s.stuck = true) : s.phase ≠ .idle := by
  intro hp
  simp [State.stuck, hp] at h

theorem waiting_of_stuck {s : State} (h : s.stuck = true) : s.waiting = true := by
  cases ha : agentOf (phaseInstr s.phase) with
  | channel =>
    rw [stuck_of_channel ha] at h
    obtain ⟨hc, -⟩ := silent_of_neverAnswers h
    rw [waiting_of_channel ha, hc]
    rfl
  | timer =>
    rw [stuck_of_timer ha] at h
    rw [waiting_of_timer ha, timerDone_of_never h]
    rfl
  | none => rw [stuck_alone ha] at h; cases h

theorem stuck_awaitChannel {s : State} (h : s.stuck = true) (ha : agentOf (phaseInstr s.phase) = .channel)
    (q : BitVec 17) : (s.awaitChannel q).stuck = true := by
  rw [stuck_of_channel ha] at h
  obtain ⟨-, hnever⟩ := silent_of_neverAnswers h
  have hpend : (s.awaitChannel q).chPending.isSome = s.chTaken := by
    rw [State.awaitChannel_chPending]
    cases s.chTaken <;> rfl
  rw [stuck_of_channel (s := s.awaitChannel q) ha, hpend]
  exact hnever

theorem stuck_awaitTimer {s : State} (h : s.stuck = true) (ha : agentOf (phaseInstr s.phase) = .timer)
    (ms : BitVec 8) : (s.awaitTimer ms).stuck = true := by
  rw [stuck_of_timer ha, List.all_eq_true] at h
  rw [stuck_of_timer (s := s.awaitTimer ms) ha, List.all_eq_true]
  exact fun d hd => h d (List.mem_of_mem_tail hd)

/-- The sequencer is stuck in the micro-operation of `p`, it shows `e`, and no reset frees it. -/
structure StuckIn (p : Phase) (e : EndState) (s : State) : Prop where
  stuck : s.stuck = true
  phase : s.phase = p
  endState : s.endState = e
  quiet : ∀ r ∈ s.rst, r = false

/-- A stuck sequencer waits for the same agent again. -/
theorem StuckIn.step {p : Phase} {e : EndState} {s : State} (h : StuckIn p e s) : ∃ t, step s = .next t ∧ StuckIn p e t := by
  have hstep := step_busy (rstNow_of_quiet h.quiet) (stuck_busy h.stuck)
  have hw := waiting_of_stuck h.stuck
  have hquiet : ∀ r ∈ s.rst.tail, r = false := fun r hr => h.quiet r (List.mem_of_mem_tail hr)
  cases ha : agentOf (phaseInstr s.phase) with
  | channel =>
    obtain ⟨q, hq⟩ := phaseRequest_eq_some ha
    have hc : s.channelAnswer = none := by simpa [waiting_of_channel ha] using hw
    exact ⟨_, hstep.trans (exec_of_silent_channel (s := s.beginStep) hq hc),
      stuck_awaitChannel (s := s.beginStep) h.stuck ha q, h.phase, h.endState, hquiet⟩
  | timer =>
    obtain ⟨ms, hms⟩ := phaseDelay_eq_some ha
    have hd : s.timerDone = false := by simpa [waiting_of_timer ha] using hw
    exact ⟨_, hstep.trans (exec_of_silent_timer (s := s.beginStep) hms hd),
      stuck_awaitTimer (s := s.beginStep) h.stuck ha ms, h.phase, h.endState, hquiet⟩
  | none =>
    obtain ⟨hidle, -⟩ := waiting_alone ha hw
    exact absurd hidle (stuck_busy h.stuck)

end Sys2Proof.Machine
end

section
/-! SUPPORT. A script of commands offered one after another to a block whose agents keep their duty (70_reset R265,
40 R122, R133). -/

namespace Sys2Proof.Machine

/-! ### Responses and the block's duty -/

theorem responses_of_requests {s t : State} {reqs : List Event} (hreq : ∀ e ∈ reqs, e.isRequest = true)
    (htr : t.trace = s.trace ++ reqs ++ t.responseEvents) : t.responses = s.responses + t.rspValid.toNat := by
  have hnone : reqs.filter (fun e => !e.isRequest) = [] := List.filter_eq_nil_iff.mpr fun e he => by simp [hreq e he]
  rw [State.responses, State.responses, htr, List.filter_append, List.filter_append, hnone, List.append_nil,
    List.length_append]
  cases hv : t.rspValid <;> simp [State.responseEvents, hv, Event.isRequest]

/-- A step that finishes gives its command's response or leaves it due. -/
theorem Finished.responses {s t : State} (f : Finished s t) : t.responses + t.busy.toNat = s.responses + 1 := by
  obtain ⟨reqs, hreq, htr⟩ := f.trace
  have hbusy : t.busy = !t.rspValid := by
    rw [State.busy, bne, Bool.not_inj_iff, Bool.eq_iff_iff, beq_iff_eq]
    exact f.responds.symm
  rw [responses_of_requests hreq htr, hbusy, Nat.add_assoc]
  cases t.rspValid <;> rfl

theorem prompt_of_le {s : State} {m n : Nat} (h : s.prompt n) (hmn : m ≤ n) : s.prompt m := by
  obtain ⟨hch, hdly, hduty⟩ := h
  exact ⟨by omega, by omega, hduty⟩

/-! ### Acceptance -/

/-- The command accepted from `s` has used no input of the agents, and no command is longer than an `ATTACH` (40 R133). -/
structure Accepted (s t : State) : Prop where
  cmdIn : t.cmdIn = s.cmdIn
  chIn : t.chIn = s.chIn
  dlyIn : t.dlyIn = s.dlyIn
  rst : t.rst = s.rst
  remaining : t.remaining ≤ 29 + 2 * s.cfg.pollMax.toNat

theorem dispatchCommand_accepted {op : BitVec 2} {s t : State} (h : dispatchCommand op s = .next t) : Accepted s t := by
  unfold dispatchCommand at h
  split at h
  · rw [execNop_cases h]
    exact ⟨rfl, rfl, rfl, rfl, Nat.zero_le _⟩
  · rcases execAttach_cases h with ⟨-, rfl⟩ | ⟨-, rfl⟩
    · exact ⟨rfl, rfl, rfl, rfl, Nat.zero_le _⟩
    · exact ⟨rfl, rfl, rfl, rfl, Nat.le_refl _⟩
  · rcases execRead_cases h with ⟨-, rfl⟩ | ⟨-, rfl⟩
    · exact ⟨rfl, rfl, rfl, rfl, Nat.zero_le _⟩
    · exact ⟨rfl, rfl, rfl, rfl, by simp [State.remaining]; omega⟩
  · rcases execDetach_cases h with ⟨-, rfl⟩ | ⟨-, rfl⟩ | ⟨-, -, rfl⟩
    · exact ⟨rfl, rfl, rfl, rfl, by simp [State.remaining]; omega⟩
    · exact ⟨rfl, rfl, rfl, rfl, Nat.zero_le _⟩
    · exact ⟨rfl, rfl, rfl, rfl, Nat.zero_le _⟩

/-! ### A script in execution -/

/-- The block serves a script of which `cmds` is still to be offered, and its agents keep their duty long enough. -/
structure Serving (cmds : List (BitVec 2)) (s : State) : Prop where
  inv : Invariant s
  offers : s.cmdIn = cmds.map some
  prompt : s.prompt (s.remaining + cmds.length * (29 + 2 * s.cfg.pollMax.toNat))

theorem Serving.rstNow {cmds : List (BitVec 2)} {s : State} (h : Serving cmds s) : s.rstNow = false := by
  obtain ⟨-, -, -, -, hquiet⟩ := h.prompt
  exact rstNow_of_quiet hquiet

/-- A busy block finishes a micro-operation: the command is answered, or it is shorter than before. -/
theorem Serving.finish {cmds : List (BitVec 2)} {s : State} (h : Serving cmds s) (hp : s.phase ≠ .idle) :
    ∃ t, step s = .next t ∧ Serving cmds t ∧ t.remaining < s.remaining ∧ t.responses + t.busy.toNat = s.responses + 1 := by
  obtain ⟨n, hn⟩ := Nat.exists_eq_succ_of_ne_zero (remaining_pos hp).ne'
  have hprompt : s.prompt (n + cmds.length * (29 + 2 * s.cfg.pollMax.toNat) + 1) := prompt_of_le h.prompt (by omega)
  obtain ⟨t, ht⟩ := exec_total (phaseInstr s.phase) s.beginStep
  have hstep : step s = .next t := (step_busy h.rstNow hp).trans ht
  have f := h.inv.step_finished h.rstNow (not_waiting_of_prompt hprompt hp) hstep
  have hless : t.remaining < s.remaining := f.remaining hp
  obtain ⟨hcmd, -⟩ := exec_busy_inputs hp ht
  refine ⟨t, hstep, ⟨h.inv.of_step hstep, hcmd.trans h.offers, ?_⟩, hless, f.responses⟩
  rw [parametersNeverChange s t hstep]
  exact prompt_of_le (f.prompt hprompt) (by omega)

/-- An idle block accepts the command on offer. -/
theorem Serving.accept {op : BitVec 2} {cmds : List (BitVec 2)} {s : State} (h : Serving (op :: cmds) s)
    (hp : s.phase = .idle) : ∃ t, step s = .next t ∧ Serving cmds t ∧ t.remaining ≤ 29 + 2 * s.cfg.pollMax.toNat ∧
      t.responses + t.busy.toNat = s.responses + 1 := by
  have ho : s.commandOffered = some op := by simp [State.commandOffered, h.offers]
  obtain ⟨t, ht⟩ := exec_total (decodeCmd op) s.beginStep.takeCommand
  rw [← dispatchCommand_eq_exec] at ht
  have hstep : step s = .next t := by
    rw [h.inv.step_eq_exec h.rstNow, hp]
    exact (execIdle_offered (s := s.beginStep) ho).trans ht
  have f := h.inv.step_finished h.rstNow (by simp [State.waiting, hp, ho]) hstep
  obtain ⟨hcmd, hch, hdly, hrst, hrem⟩ := dispatchCommand_accepted ht
  have hprompt : t.prompt (s.remaining + (op :: cmds).length * (29 + 2 * s.cfg.pollMax.toNat)) := by
    obtain ⟨hchLen, hdlyLen, hchAll, hdlyAll, hquiet⟩ := h.prompt
    rw [State.prompt, hch, hdly, hrst]
    exact ⟨hchLen, hdlyLen, hchAll, hdlyAll, fun r hr => hquiet r (List.mem_of_mem_tail hr)⟩
  refine ⟨t, hstep, ⟨h.inv.of_step hstep, hcmd.trans (by simp [h.offers]), ?_⟩, hrem, f.responses⟩
  rw [parametersNeverChange s t hstep]
  refine prompt_of_le hprompt ?_
  replace hrem : t.remaining ≤ 29 + 2 * s.cfg.pollMax.toNat := hrem
  rw [List.length_cons, Nat.add_one_mul cmds.length]
  omega

/-- The command in execution, if there is one, is answered within its bound. -/
theorem Serving.reaches_idle {cmds : List (BitVec 2)} {s : State} (h : Serving cmds s) :
    ∃ k t, k ≤ s.remaining ∧ Host.Core.run Sys2Proof.core k s = .next t ∧ Serving cmds t ∧ t.phase = .idle ∧
      t.cfg = s.cfg ∧ t.responses = s.responses + s.busy.toNat := by
  induction hn : s.remaining using Nat.strong_induction_on generalizing s with
  | h n ih =>
    by_cases hp : s.phase = .idle
    · exact ⟨0, s, Nat.zero_le _, rfl, h, hp, rfl, by simp [State.busy, hp]⟩
    · obtain ⟨t, hstep, hserve, hless, hresp⟩ := h.finish hp
      obtain ⟨k, u, hk, hrun, hu, hidle, hcfg, hresp'⟩ := ih _ (hn ▸ hless) hserve rfl
      have hbusy : s.busy.toNat = 1 := by simp [State.busy, hp]
      exact ⟨k + 1, u, by omega, (run_succ hstep k).trans hrun, hu, hidle, hcfg.trans (parametersNeverChange s t hstep),
        by omega⟩

/-- One command after another: each is accepted in one step and answered within the bound of an `ATTACH`. -/
theorem Serving.runs_to_end {cmds : List (BitVec 2)} {s : State} (h : Serving cmds s) (hp : s.phase = .idle) :
    ∃ k t, k ≤ cmds.length * (30 + 2 * s.cfg.pollMax.toNat) ∧ Host.Core.run Sys2Proof.core k s = .next t ∧
      t.runOver (s.responses + cmds.length) = true := by
  induction cmds generalizing s with
  | nil =>
    obtain ⟨hreq, hpend⟩ := h.inv.no_transaction (by rw [hp]; nofun)
    have hdly := h.inv.no_delay (by rw [hp]; nofun)
    exact ⟨0, s, Nat.zero_le _, rfl, runOver_iff.mpr ⟨hp, hreq, hpend, hdly, rfl, by simp [h.offers]⟩⟩
  | cons op cmds ih =>
    obtain ⟨t, hstep, hserve, hrem, hresp⟩ := h.accept hp
    obtain ⟨j, u, hj, hrun, hserve, hidle, hcfg, hresp'⟩ := hserve.reaches_idle
    obtain ⟨k, v, hk, hrun', hover⟩ := ih hserve hidle
    refine ⟨j + 1 + k, v, ?_, (run_add ((run_succ hstep j).trans hrun) k).trans hrun', ?_⟩
    · rw [hcfg, parametersNeverChange s t hstep] at hk
      rw [List.length_cons, Nat.add_one_mul cmds.length]
      omega
    · have hcount : s.responses + (op :: cmds).length = u.responses + cmds.length := by
        rw [List.length_cons]
        omega
      rw [hcount]
      exact hover

end Sys2Proof.Machine
end

section
/-! The statements about reset and the end of a run (70_reset_and_hazards). -/

namespace Sys2Proof.Machine

/-- Settles O9: a step with `rst = 1` is `hardReset`, and the first answer or completion behind silent entries is the one taken
out. -/
theorem lateAnswerAfterResetIsIgnored : Obligations.LateAnswerAfterResetIsIgnored := by
  refine ⟨fun s early rest ready a hr hpend hsilent hin => ⟨_, step_of_rst hr, rfl, rfl, ?_⟩,
    fun s hr hpend => ⟨_, step_of_rst hr, rfl, rfl, ?_⟩, fun s n rest hr hdly hin => ⟨_, step_of_rst hr, rfl, ?_⟩,
    fun s hr hdly => ⟨_, step_of_rst hr, ?_⟩⟩
  · rw [State.hardReset_chIn, State.beginStep_chPending, State.beginStep_chIn,
      if_pos (Option.isSome_iff_ne_none.mpr hpend), hin, ignoreLateAnswer_first hsilent]
  · simp [hpend]
  · rw [State.hardReset_dlyIn, State.beginStep_dlyReq, State.beginStep_dlyIn,
      if_pos (Option.isSome_iff_ne_none.mpr hdly), hin, ignoreLateDone_first]
  · simp [hdly]

/-- Settles O59: an ended run and a stuck sequencer are both kept by every step; a stuck sequencer is busy, and a busy block's
run is not over. -/
theorem finishedRunsIdleForEver : Obligations.FinishedRunsIdleForEver := by
  refine ⟨fun s n k hover hquiet => ?_, fun s n h => ?_, fun s k _ hstuck hquiet => ?_, fun s => ?_, fun s _ hstuck => ?_⟩
  · obtain ⟨t, hrun, ht⟩ := run_keeps (fun _ => EndedIn.step) k (s := s) ⟨hover, rfl, hquiet⟩
    exact ⟨t, hrun, ht.runOver, ht.endState⟩
  · by_contra hover
    obtain ⟨hp, hreq, hpend, hdly, hresp, hcmd⟩ := runOver_iff.mp (Bool.eq_true_of_not_eq_false hover)
    have ho := commandOffered_of_none hcmd
    simp [hp, hreq, hpend, hdly, hresp, ho] at h
  · obtain ⟨t, hrun, ht⟩ := run_keeps (fun _ => StuckIn.step) k (s := s) ⟨hstuck, rfl, rfl, hquiet⟩
    exact ⟨t, hrun, ht.phase, ht.stuck, ht.endState, runOver_of_busy (stuck_busy ht.stuck)⟩
  · cases hidle : s.phase == .idle <;> simp [State.idling, State.held, bne, hidle]
  · simp [State.held, stuck_busy hstuck, waiting_of_stuck hstuck]

/-- Settles O60: an idle block with agents that keep their duty serves the script command by command. -/
theorem everyScriptRunsToItsEnd : Obligations.EveryScriptRunsToItsEnd := by
  intro s cmds inv hp hoffers hprompt
  have hrem : s.remaining = 0 := by simp [State.remaining, hp]
  exact Serving.runs_to_end ⟨inv, hoffers, by rwa [hrem, Nat.zero_add]⟩ hp

end Sys2Proof.Machine
end
